-- ==== Sys2Proof/Word.lean ====
section
/-! DEFINITION. The words of the KF460: bytes, line positions, link node numbers, what a received frame brings after its
header, and print columns. -/

namespace Sys2Proof

/-- One byte of a frame, a record or a memory. -/
abbrev Byte := BitVec 8

/-- A line position, a piece key or a landmark target, in counts modulo 2^24 (01 R1, R2). -/
abbrev Pos := BitVec 24

/-- A node of the tandem link: 0 the terminal, 1 to 14 the stations, 15 all stations (00 LINE ARRANGEMENT). -/
abbrev Node := BitVec 4

/-- One column of the print head: row 0 is the most significant bit, row 47 the least (08 R152, 11 CONFIGURATION
RECORD). -/
abbrev Column := BitVec 48

/-- What a frame of another node brings to this station after its header: the payload bytes, the check received, `none`
when the frame ended before its check was complete, and whether another receiver drove the reject slot (09 R170,
R174). -/
structure FrameBody where
  payload : List Byte
  check : Option (BitVec 16)
  rejected : Bool
  deriving DecidableEq, Repr

end Sys2Proof
end

