-- ==== Sys2Proof/Syntax.lean ====
section
/-! DEFINITION. The commands of the KF460: one constructor for each row of spec/opcode_table.json, with what the
part's surroundings deliver on that event as operands. -/

namespace Sys2Proof

/-- The events the part takes. A frame of another node comes with its source, its destination, its
payload bytes and how it ended; its kind is the constructor, and it is delivered when it ends as 09 R174 says. -/
inductive Instr where
  /-- PORN rises (10 R189). -/
  | powerOn
  /-- The configuration record read ends: the bytes the memory holds from its first byte on, or `none` when the port
  failed to answer or reported a read error (10 R189). -/
  | configurationReadComplete (bytes : Option (List Byte))
  /-- The read of the two status records ends; each flag says whether the port could read that record (04 R79). -/
  | statusRecordRebuildComplete (readA readB : Bool)
  /-- The read of the two banks ends; each flag says whether the bank's check matches as read (07 R137). -/
  | bankReadComplete (match0 match1 : Bool)
  /-- A forward encoder step; the levels that PH_RDY has at the first column arrival of the print owner on this step
  and at any further one (01 R1, 08 R152). -/
  | forwardStep (phRdy phRdyAgain : Bool)
  /-- A backward encoder step (01 R1). -/
  | backwardStep
  /-- The entry cell blocks (01 R4). -/
  | sighting
  /-- The entry cell unblocks (01 R15). -/
  | entryUnblock
  /-- The exit cell blocks (01 R16). -/
  | exitCellBlock
  /-- The exit cell unblocks (01 R12). -/
  | exitCellUnblock
  /-- The 2 ms speed period expires (01 R10). -/
  | speedPeriodExpiry
  /-- A raw scale sample arrives, signed 24 bits (03 R42). -/
  | sampleArrival (raw : BitVec 24)
  /-- A thickness reading arrives, 0 to 1,023 tenths of a millimetre (03 R57). -/
  | gaugeArrival (reading : BitVec 10)
  /-- A walk's header read completes, with or without a read error (05 R91). -/
  | headerReadComplete (error : Bool)
  /-- A walk's directory entry read completes (05 R91). -/
  | directoryEntryReadComplete (error : Bool)
  /-- A walk's step table read completes (05 R91). -/
  | stepTableReadComplete (error : Bool)
  /-- A slot status write completes; `wrong` when it left the record failing its own check (04 R62, R63). -/
  | statusWriteComplete (wrong : Bool)
  /-- The erase of a slot completes; the bytes it left wrong (04 R63, R67). -/
  | eraseComplete (wrong : List Host.Cell)
  /-- The program of a write buffer entry completes; the bytes it left wrong (04 R63, R69). -/
  | programComplete (wrong : List Host.Cell)
  /-- A check read of `count` bytes completes, with or without a read error (04 R70, R71). -/
  | checkReadComplete (count : Nat) (error : Bool)
  /-- A debit write completes (07 R143). -/
  | debitWriteComplete
  /-- A credit write completes (07 R146). -/
  | creditWriteComplete
  /-- The medium is idle and the station starts sending (09 R180). -/
  | attemptStart
  /-- The station loses arbitration (09 R172). -/
  | lostArbitration
  /-- The station reads back a mismatched bit after winning arbitration (09 R175). -/
  | readBackFailure
  /-- The own frame arrives (09 R181). -/
  | frameDelivered
  /-- The own frame fails at its accept or reject slot (09 R181). -/
  | attemptFailed
  /-- A LINE RESET arrives (10 R195). -/
  | lineReset (src dst : Node) (body : FrameBody)
  /-- A CLAIM of another node arrives (06 R115). -/
  | claim (src dst : Node) (body : FrameBody)
  /-- A RELEASE arrives (06 R119). -/
  | release (src dst : Node) (body : FrameBody)
  /-- A PAUSE arrives (06 R121). -/
  | pause (src dst : Node) (body : FrameBody)
  /-- A RESUME arrives (06 R121). -/
  | resume (src dst : Node) (body : FrameBody)
  /-- A JOB arrives (05 R81). -/
  | job (src dst : Node) (body : FrameBody)
  /-- A DATE arrives (04 R75). -/
  | date (src dst : Node) (body : FrameBody)
  /-- A DISPUTE arrives (06 R129). -/
  | dispute (src dst : Node) (body : FrameBody)
  /-- A CREDIT arrives (07 R145). -/
  | credit (src dst : Node) (body : FrameBody)
  /-- An ACCOUNT QUERY arrives (07 R148). -/
  | accountQuery (src dst : Node) (body : FrameBody)
  /-- A CLEAR SCALE arrives (06 R131). -/
  | clearScale (src dst : Node) (body : FrameBody)
  /-- A STATUS QUERY arrives (09 R185). -/
  | statusQuery (src dst : Node) (body : FrameBody)
  /-- An ONLINE arrives (06 R123). -/
  | online (src dst : Node) (body : FrameBody)
  /-- A TARIFF OPEN arrives (04 R66). -/
  | tariffOpen (src dst : Node) (body : FrameBody)
  /-- A TARIFF DATA arrives (04 R68). -/
  | tariffData (src dst : Node) (body : FrameBody)
  /-- A TARIFF CLOSE arrives (04 R70). -/
  | tariffClose (src dst : Node) (body : FrameBody)
  /-- VDD fails or PORN is pulled low; `holdUp` when VNV lasts until a write in flight has completed (07 R136). -/
  | powerLoss (holdUp : Bool)
  /-- After power-on the medium has rested at the recessive level for longer than any frame (09 R188). -/
  | firstIdleSeen
  deriving DecidableEq, Repr

end Sys2Proof
end

