-- ==== Sys2Proof/Config.lean ====
section
/-! DEFINITION. The one free value of the model, and the sizes the manual fixes for every part. -/

namespace Sys2Proof.Config

/-- The free values, one for each draw. What a rule leaves open (the order of arrivals of different records on one
encoder step, the outcome of a status write that power loss cuts) is read from here, and nothing constrains it
(assumption log 7). -/
opaque freeValue : Nat → Nat

/-- Places of the Piece Table (02 R18). -/
def tablePlaces : Nat := 16

/-- Places of the transmit queue (09 R178). -/
def queuePlaces : Nat := 8

/-- Entries of the tariff write buffer (04 R68). -/
def bufferEntries : Nat := 2

/-- Places of the job list (05 R80). -/
def jobPlaces : Nat := 3

/-- Sets of the rate line cache (05 R86). -/
def cacheSets : Nat := 8

/-- Ways of one set of the rate line cache (05 R86). -/
def cacheWays : Nat := 3

/-- Entries of the commit history ring (06 R128). -/
def ringEntries : Nat := 16

/-- Bytes of one slot area of the tariff memory (04 SLOTS AND DESCRIPTORS). -/
def areaBytes : Nat := 65536

/-- The value at which the blocked-run counters, the reversal accumulator and the step tally saturate (01 R9, R11,
R12). -/
def countCap : Nat := 4095

/-- The piece count past which no debit goes (07 R139, R147). -/
def pieceCap : Nat := 999999999

end Sys2Proof.Config
end

