-- ==== Sys2Proof/Machine/State.lean ====
section
/-! DEFINITION. The state of the KF460, block by block, as plain data, and the state right after power-on. -/

namespace Sys2Proof.Machine

/-! ### Outcomes other than a next state -/

/-- No command of the part ends in a fault: every event is taken, ignored, or answered by a frame (assumption log
34). -/
inductive Fault where
  deriving DecidableEq, Repr

/-- Reasons to have no meaning for a command. -/
inductive Refusal where
  /-- Raised by exec for a command without a meaning; safe. No arm raises it. -/
  | notModelled (mnemonic : String)
  deriving DecidableEq, Repr

/-! ### Start-up Loader -/

/-- The station modes (10 Table 10-3). -/
inductive StationMode where
  | offline | unsynced | running | hold
  deriving DecidableEq, Repr

/-- The configuration faults, in the order of their checks (10 Table 10-1). -/
inductive ConfigFault where
  | read | length | crc | station | range | geometry | order
  deriving DecidableEq, Repr

/-- The reasons of a HOLD request (10 R194). -/
inductive HoldReason where
  | reversed | jam | link
  deriving DecidableEq, Repr

/-- The mode reason (10 R196). -/
inductive ModeReason where
  | none
  | hold (reason : HoldReason)
  | config (fault : ConfigFault)
  deriving DecidableEq, Repr

/-- One field of the indicium: start column, top row, display choice (08 R156). -/
structure Field where
  start : Nat
  top : Nat
  blanked : Bool
  deriving DecidableEq, Repr

/-- The values of the configuration record (11 Table 11-4). -/
structure ConfigCopy where
  station : Nat
  /-- Station offset O. -/
  offset : Nat
  /-- Landmarks Ps, Pe, D, K, S and X. -/
  ps : Nat
  pe : Nat
  d : Nat
  k : Nat
  s : Nat
  x : Nat
  /-- Match window w. -/
  window : Nat
  vmax : Nat
  vhyst : Nat
  tolerance : Nat
  jamLength : Nat
  gain : Nat
  initialZero : Int
  minSamples : Nat
  settleBand : Nat
  zeroBand : Nat
  zeroFaultLimit : Nat
  /-- Counts per millimetre. -/
  cpm : Nat
  valueCap : Nat
  disputeTolerance : Nat
  disputeLimit : Nat
  creditLimit : Nat
  warningLevel : Nat
  pitch : Nat
  /-- Indicium width W. -/
  width : Nat
  cellWidth : Nat
  cellHeight : Nat
  fieldValue : Field
  fieldDate : Field
  fieldNumber : Field
  fieldSerial : Field
  serial : Nat
  /-- Frame images 0 to 3, each W columns. -/
  frames : List (List Column)
  /-- Glyphs 0 to 11, each cw columns of 16 cell rows, cell row 0 the most significant bit. -/
  glyphs : List (List (BitVec 16))
  deriving DecidableEq, Repr

/-- The configuration copy before any record has been read (assumption log 3). -/
def ConfigCopy.blank : ConfigCopy :=
  { station := 0, offset := 0, ps := 0, pe := 0, d := 0, k := 0, s := 0, x := 0, window := 0, vmax := 0, vhyst := 0,
    tolerance := 0, jamLength := 0, gain := 0, initialZero := 0, minSamples := 0, settleBand := 0, zeroBand := 0,
    zeroFaultLimit := 0, cpm := 0, valueCap := 0, disputeTolerance := 0, disputeLimit := 0, creditLimit := 0,
    warningLevel := 0, pitch := 0, width := 0, cellWidth := 0, cellHeight := 0, fieldValue := ⟨0, 0, false⟩,
    fieldDate := ⟨0, 0, false⟩, fieldNumber := ⟨0, 0, false⟩, fieldSerial := ⟨0, 0, false⟩, serial := 0, frames := [],
    glyphs := [] }

/-- The Start-up Loader (10). -/
structure Loader where
  /-- PORN high and VDD present. -/
  powered : Bool
  /-- `none` during the start-up read (R189). -/
  mode : Option StationMode
  reason : ModeReason
  configDone : Bool
  slotsDone : Bool
  banksDone : Bool
  fault : Option ConfigFault
  config : ConfigCopy
  /-- Own number on the link: the station number, or 15 (R192). -/
  number : Node
  deriving DecidableEq, Repr

/-! ### Line Position Unit -/

/-- The Line Position Unit (01). -/
structure Lpu where
  linePos : Pos
  synced : Bool
  tally : Int
  /-- Speed sample v. -/
  speed : Int
  reversal : Nat
  entryRun : Nat
  exitRun : Nat
  entryBlocked : Bool
  exitBlocked : Bool
  /-- The key of the entry owner. -/
  entryOwner : Option Pos
  /-- The horizon clearance. -/
  clearance : Option Pos
  deriving DecidableEq, Repr

/-! ### Piece Table -/

/-- Presence of a record (02 Table 2-2). -/
inductive Presence where
  | noticed | present | exited
  deriving DecidableEq, Repr

/-- Measurement phase of a record (02 Table 2-2); `none` is the manual's NONE. -/
inductive MeasurePhase where
  | none | measuring | weighed | rating | rated | faulted
  deriving DecidableEq, Repr

/-- Claim phase of a record (02 Table 2-2); `opened` is the manual's OPEN. -/
inductive ClaimPhase where
  | opened | foreign | claiming | claimed | debitWait | armed | printing | ended
  deriving DecidableEq, Repr

/-- Pass reasons, in the order of 02 Table 2-4. -/
inductive PassReason where
  | none | inhibited | lateRate | rateFault | noWeight | tailgate | funds | queueFull | lateClaim | linkAbandoned
  | hold | releasedLate | lateDebit
  deriving DecidableEq, Repr

/-- Outcomes of a piece (02 Table 2-5). -/
inductive PieceOutcome where
  | printed | defective | spoiled | unfranked
  deriving DecidableEq, Repr

/-- Rating fault codes, in the order of 05 Table 5-4. -/
inductive RatingFault where
  | noJob | noTariff | formatRejected | noEntry | formatBarred | overweight | overLastStep | zeroValue | overCap
  | readError
  deriving DecidableEq, Repr

/-- The services of a job (05 R80). -/
inductive Service where
  | none | tracked | signed | both
  deriving DecidableEq, Repr

/-- The formats (05 R85). -/
inductive Format where
  | standard | bulky | oversize
  deriving DecidableEq, Repr

/-- Class, zone and service that the RE keeps for a record (05 R82). -/
structure JobTerms where
  cls : Nat
  zone : Nat
  service : Service
  deriving DecidableEq, Repr

/-- Weighing part of a record (03 R47). -/
structure Weighing where
  count : Nat
  sum : Nat
  min : Option Nat
  max : Option Nat
  settled : Bool
  overFlag : Bool
  /-- Rating weight. -/
  weight : Option Nat
  deriving DecidableEq, Repr

/-- Rating part of a record (05 R100). -/
structure RatingPart where
  image : Nat
  step : Nat
  value : Nat
  frameSel : Nat
  deriving DecidableEq, Repr

/-- What a rating ends in (05 R100, R101). -/
inductive RatingResult where
  | rated (part : RatingPart)
  | fault (fault : RatingFault)
  deriving DecidableEq, Repr

/-- Foreign part of a record (06 R115). -/
structure ForeignClaim where
  station : Nat
  weight : Nat
  step : Nat
  image : Nat
  deriving DecidableEq, Repr

/-- Print progress of a record (08 R160). -/
structure PrintProgress where
  next : Nat
  dropped : Nat
  deriving DecidableEq, Repr

/-- The targets of a record, in the order of 01 Table 1-1; `beyond` when every target has been reached. -/
inductive Target where
  | ps | pe | d | k | s
  | column (c : Nat)
  | window | exit | beyond
  deriving DecidableEq, Repr

/-- A piece record (02 Table 2-1). -/
structure Record where
  key : Pos
  presence : Presence
  phase : MeasurePhase
  claim : ClaimPhase
  job : Option Nat
  terms : Option JobTerms
  length : Option Nat
  thickness : Nat
  weighing : Weighing
  /-- The record waits in the rating order (05 R83). -/
  waiting : Bool
  rating : Option RatingResult
  foreign : Option ForeignClaim
  reserved : Option Nat
  print : Option PrintProgress
  pieceNumber : Option Nat
  outcome : Option PieceOutcome
  pass : PassReason
  disputeSent : Bool
  conflict : Bool
  lost : Bool
  tailgate : Bool
  /-- Sighting position p (01 R5). -/
  sightPos : Option Pos
  /-- The target the record awaits (01 R6). -/
  awaits : Target
  exitTarget : Option Pos
  exitSeen : Bool
  windowOpen : Bool
  noticeLimit : Option Pos
  /-- The record is from before the latest LINE RESET (01 R3, R7). -/
  beforeReset : Bool
  deriving DecidableEq, Repr

/-- The Piece Table (02): its records in key order and the blind horizon. -/
structure Table where
  records : List Record
  horizon : Option Pos
  deriving DecidableEq, Repr

/-! ### Weighing Unit and inhibit set -/

/-- The Weighing Unit (03). -/
structure Wu where
  zero : Int
  zeroFaults : Nat
  guardPos : Option Pos
  deriving DecidableEq, Repr

/-- The inhibit set (06 Table 6-2). -/
structure Inhibit where
  noJob : Bool
  noDate : Bool
  noTariff : Bool
  overspeed : Bool
  scaleFailed : Bool
  scaleSuspect : Bool
  layout : Bool
  blind : Bool
  exhausted : Bool
  paused : Bool
  deriving DecidableEq, Repr

/-! ### Tariff Store -/

/-- The two slots of the tariff memory. -/
inductive SlotId where
  | a | b
  deriving DecidableEq, Repr

/-- Slot states (04 Table 4-2). -/
inductive SlotState where
  | empty | loading | invalid | ready | active | superseded
  deriving DecidableEq, Repr

/-- Reasons of an INVALID slot (04 R73); `structural` is the manual's STRUCTURE. -/
inductive InvalidReason where
  | crc | structural
  deriving DecidableEq, Repr

/-- A slot descriptor (04 Table 4-1). `accepted` is both the bytes accepted and the next expected offset (R61). A value
that a state does not have is 0 or `none` (assumption log 33). -/
structure Slot where
  state : SlotState
  image : Nat
  ordinal : Nat
  length : Nat
  accepted : Nat
  invalid : Option InvalidReason
  deriving DecidableEq, Repr

/-- An EMPTY slot. -/
def Slot.blank : Slot := { state := .empty, image := 0, ordinal := 0, length := 0, accepted := 0, invalid := none }

/-- The content of a status record in the tariff memory (04 R62). -/
structure SlotRecord where
  state : SlotState
  image : Nat
  ordinal : Nat
  length : Nat
  invalid : Option InvalidReason
  deriving DecidableEq, Repr

/-- The station date (04 R75). -/
structure StationDate where
  ordinal : Nat
  day : Nat
  month : Nat
  year : Nat
  deriving DecidableEq, Repr

/-- An entry of the tariff write buffer (04 R68). -/
structure BufferEntry where
  slot : SlotId
  offset : Nat
  data : List Byte
  /-- Its program has started. -/
  started : Bool
  deriving DecidableEq, Repr

/-- The erase of a load (04 R66, R67). -/
inductive EraseState where
  | waiting | running | done
  deriving DecidableEq, Repr

/-- A check in flight (04 R70, R71): the CRC that TARIFF CLOSE carried, the next offset to read, and whether a check
read reported an error. -/
structure Check where
  crc : BitVec 32
  offset : Nat
  failed : Bool
  deriving DecidableEq, Repr

/-- The load in progress (04 R66 to R74). -/
structure Load where
  slot : SlotId
  erase : EraseState
  check : Option Check
  deriving DecidableEq, Repr

/-- A status write that has been requested and has not started; `readyFirst` when it records READY for a slot that has
since become ACTIVE (04 R62). -/
structure StatusReq where
  slot : SlotId
  readyFirst : Bool
  deriving DecidableEq, Repr

/-- The operation on the tariff memory port (04 R63). -/
inductive PortOp where
  /-- The read that the walk in flight awaits. -/
  | walkRead
  /-- A status write of a record; `again` when a further write is requested at its completion. -/
  | statusWrite (slot : SlotId) (record : SlotRecord) (again : Bool)
  /-- An erase; `live` unless its load has been abandoned. -/
  | erase (slot : SlotId) (live : Bool)
  /-- The program of the write buffer entry that has started. -/
  | program
  /-- A check read; `live` unless its load has been abandoned. -/
  | checkRead (live : Bool)
  deriving DecidableEq, Repr

/-- The bytes of a slot area in canonical form: offsets rising, no entry equal to an erased byte. -/
abbrev Memory := List Host.Cell

/-- The Tariff Store with the tariff memory behind it (04). -/
structure Tariff where
  slotA : Slot
  slotB : Slot
  /-- The status records in the tariff memory; `none` when the record fails its own check. -/
  recordA : Option SlotRecord
  recordB : Option SlotRecord
  areaA : Memory
  areaB : Memory
  date : Option StationDate
  buffer : List BufferEntry
  load : Option Load
  marker : Option SlotId
  writes : List StatusReq
  port : Option PortOp
  deriving DecidableEq, Repr

/-! ### Rating Engine -/

/-- A job of the job list (05 R80). -/
structure Job where
  number : Nat
  cls : Nat
  zone : Nat
  service : Service
  key : Pos
  inForce : Bool
  deriving DecidableEq, Repr

/-- A directory entry (04 Table 4-4). -/
structure DirEntry where
  present : Bool
  table : Nat
  factor : Nat
  standard : Bool
  bulky : Bool
  oversize : Bool
  bulkyFee : Nat
  oversizeFee : Nat
  trackedFee : Nat
  signedFee : Nat
  minimum : Nat
  frameSel : Nat
  deriving DecidableEq, Repr

/-- A weight step (04 IMAGE CONTENTS). -/
structure Step where
  bound : Nat
  base : Nat
  deriving DecidableEq, Repr

/-- A valid line of the rate line cache (05 R86). -/
structure RateLine where
  image : Nat
  cls : Nat
  zone : Nat
  entry : DirEntry
  steps : List Step
  deriving DecidableEq, Repr

/-- The limit copy: Ls, Ts, Lb, Tb, Lo, To and the image id (05 R90). -/
structure Limits where
  image : Nat
  lengthStandard : Nat
  thickStandard : Nat
  lengthBulky : Nat
  thickBulky : Nat
  lengthOversize : Nat
  thickOversize : Nat
  deriving DecidableEq, Repr

/-- The read a walk awaits (05 R91). -/
inductive WalkStage where
  | header | directory | steps
  deriving DecidableEq, Repr

/-- A walk in flight (05 R91): the record it is attached to, the slot it named with its image id, what it rates, and
what it has read. -/
structure Walk where
  record : Option Pos
  slot : SlotId
  image : Nat
  cls : Nat
  zone : Nat
  length : Nat
  thickness : Nat
  stage : WalkStage
  format : Option Format
  entry : Option DirEntry
  /-- A LINE RESET was delivered while it was in flight (R103). -/
  noFill : Bool
  deriving DecidableEq, Repr

/-- The Rating Engine (05). The cache is a list of sets, each its valid lines from most to least recent. -/
structure Rater where
  jobs : List Job
  /-- The reference key while no job is in force (R80). -/
  ref : Pos
  cache : List (List RateLine)
  limits : Option Limits
  walk : Option Walk
  deriving DecidableEq, Repr

/-- Every line of the cache empty (05 R86). -/
def emptyCache : List (List RateLine) := [[], [], [], [], [], [], [], []]

/-! ### Claim Controller -/

/-- An entry of the peer table (06 R123). -/
structure Peer where
  station : Nat
  offset : Nat
  d : Nat
  k : Nat
  deriving DecidableEq, Repr

/-- An entry of the commit history ring (06 R128). -/
structure RingEntry where
  key : Pos
  step : Nat
  weight : Nat
  marked : Bool
  deriving DecidableEq, Repr

/-- The Claim Controller (06): the ring is oldest first. -/
structure Claims where
  peers : List Peer
  ring : List RingEntry
  deriving DecidableEq, Repr

/-! ### Accounting Unit -/

/-- A set of the nonvolatile registers with its generation (07 R135, R136). -/
structure NvSet where
  descending : Nat
  ascending : Nat
  control : Nat
  count : Nat
  nextCredit : Nat
  generation : Nat
  deriving DecidableEq, Repr

/-- The registers of a store that has never been written, and of a faulted store (07 R135, R137). -/
def NvSet.blank : NvSet :=
  { descending := 0, ascending := 0, control := 0, count := 0, nextCredit := 1, generation := 0 }

/-- The banks of the nonvolatile store. -/
inductive BankId where
  | zero | one
  deriving DecidableEq, Repr

/-- A record of the debit queue with its amount (07 R141). -/
structure DebitItem where
  key : Pos
  amount : Nat
  deriving DecidableEq, Repr

/-- The write in flight and the set it puts into the other bank (07 R142, R145). -/
inductive NvWrite where
  | debit (item : DebitItem) (set : NvSet)
  | credit (set : NvSet)
  deriving DecidableEq, Repr

/-- The Accounting Unit (07). A bank is `none` when its check does not match. -/
structure Account where
  bank0 : Option NvSet
  bank1 : Option NvSet
  current : BankId
  faulted : Bool
  reserved : Nat
  committed : Nat
  outstanding : Nat
  queue : List DebitItem
  write : Option NvWrite
  deriving DecidableEq, Repr

/-! ### Indicium Printer -/

/-- The print content taken at S (08 R157). -/
structure PrintContent where
  value : Nat
  frameSel : Nat
  number : Nat
  day : Nat
  month : Nat
  year : Nat
  serial : Nat
  deriving DecidableEq, Repr

/-- The print owner with its content. -/
structure PrintOwner where
  key : Pos
  content : PrintContent
  deriving DecidableEq, Repr

/-- The Indicium Printer (08) and its print head port: the columns strobed on the latest encoder step. -/
structure Printer where
  owner : Option PrintOwner
  fired : List Column
  deriving DecidableEq, Repr

/-! ### Link Controller -/

/-- Frame kinds, in the order of 09 Table 9-2. -/
inductive Kind where
  | lineReset | claim | release | pause | resume | job | date | pieceReport | dispute | credit | accountQuery
  | accountReport | clearScale | statusQuery | statusReport | refusal | online | tariffOpen | tariffData | tariffClose
  deriving DecidableEq, Repr

/-- A frame of the transmit queue (09 R178 to R180). -/
structure TxEntry where
  kind : Kind
  dest : Node
  payload : List Byte
  /-- Failed attempts, 0 to 8. -/
  failures : Nat
  /-- For a CLAIM, the record it belongs to. -/
  record : Option Pos
  /-- The frame on the medium. -/
  onMedium : Bool
  /-- Withdrawn by its owner (06 R112). -/
  withdrawn : Bool
  deriving DecidableEq, Repr

/-- A frame as sent (09 Table 9-1). -/
structure LinkFrame where
  kind : Kind
  source : Node
  dest : Node
  payload : List Byte
  check : BitVec 16
  deriving DecidableEq, Repr

/-- What the station drove at the two slots of the latest frame (09 R173). -/
inductive SlotDrive where
  | none | accept | reject
  deriving DecidableEq, Repr

/-- The Link Controller (09). -/
structure Link where
  queue : List TxEntry
  attempt : Option LinkFrame
  abandons : Nat
  idleSeen : Bool
  receiver : Bool
  drove : SlotDrive
  deriving DecidableEq, Repr

/-- Input pins whose level the part reads later (00 Table 0-5). -/
structure Pins where
  cellEn : Bool
  cellEx : Bool
  phRdy : Bool
  phRdyAgain : Bool
  deriving DecidableEq, Repr

/-! ### The whole part -/

/-- The state of the KF460, with the model's own two fields: `free` counts the free values drawn, `pending` is the
queue of waiting commands. -/
structure State where
  loader : Loader
  lpu : Lpu
  table : Table
  wu : Wu
  inhibit : Inhibit
  tariff : Tariff
  rater : Rater
  cc : Claims
  au : Account
  ip : Printer
  lc : Link
  pins : Pins
  free : Nat
  pending : List Instr
  deriving DecidableEq, Repr

/-- Right after power-on of a part as it leaves manufacture, the start-up read begun and none of its reads completed
(01 R17, 02 R41, 03 R60, 04 R79, 05 R104, 06 R134, 07 R135 and R151, 08 R168, 09 R188, 10 R189; assumption log 1, 2,
3). -/
def State.reset : State where
  loader :=
    { powered := true, mode := none, reason := .none, configDone := false, slotsDone := false, banksDone := false,
      fault := none, config := ConfigCopy.blank, number := 15#4 }
  lpu :=
    { linePos := 0#24, synced := false, tally := 0, speed := 0, reversal := 0, entryRun := 0, exitRun := 0,
      entryBlocked := false, exitBlocked := false, entryOwner := none, clearance := none }
  table := { records := [], horizon := none }
  wu := { zero := 0, zeroFaults := 0, guardPos := none }
  inhibit :=
    { noJob := true, noDate := true, noTariff := true, overspeed := false, scaleFailed := false, scaleSuspect := false,
      layout := false, blind := false, exhausted := false, paused := false }
  tariff :=
    { slotA := Slot.blank, slotB := Slot.blank, recordA := none, recordB := none, areaA := [], areaB := [],
      date := none, buffer := [], load := none, marker := none, writes := [], port := none }
  rater := { jobs := [], ref := 0#24, cache := emptyCache, limits := none, walk := none }
  cc := { peers := [], ring := [] }
  au :=
    { bank0 := some NvSet.blank, bank1 := none, current := .zero, faulted := false, reserved := 0, committed := 0,
      outstanding := 0, queue := [], write := none }
  ip := { owner := none, fired := [] }
  lc := { queue := [], attempt := none, abandons := 0, idleSeen := false, receiver := false, drove := .none }
  pins := { cellEn := false, cellEx := false, phRdy := false, phRdyAgain := false }
  free := 0
  pending := []

end Sys2Proof.Machine
end

