-- ==== Sys2Proof/Machine/Ops.lean ====
section
/-! DEFINITION. The named operations over the state: block updates, positions, free choices, the slot areas, the
record table, the transmit queue. -/

namespace Sys2Proof.Machine

/-! ### Block updates -/

/-- The state with another Start-up Loader. -/
def State.setLoader (s : State) (v : Loader) : State := { s with loader := v }
/-- The state with another Line Position Unit. -/
def State.setLpu (s : State) (v : Lpu) : State := { s with lpu := v }
/-- The state with another Piece Table. -/
def State.setTable (s : State) (v : Table) : State := { s with table := v }
/-- The state with another Weighing Unit. -/
def State.setWu (s : State) (v : Wu) : State := { s with wu := v }
/-- The state with another inhibit set. -/
def State.setInhibit (s : State) (v : Inhibit) : State := { s with inhibit := v }
/-- The state with another Tariff Store. -/
def State.setTariff (s : State) (v : Tariff) : State := { s with tariff := v }
/-- The state with another Rating Engine. -/
def State.setRater (s : State) (v : Rater) : State := { s with rater := v }
/-- The state with another Claim Controller. -/
def State.setCc (s : State) (v : Claims) : State := { s with cc := v }
/-- The state with another Accounting Unit. -/
def State.setAu (s : State) (v : Account) : State := { s with au := v }
/-- The state with another Indicium Printer. -/
def State.setIp (s : State) (v : Printer) : State := { s with ip := v }
/-- The state with another Link Controller. -/
def State.setLc (s : State) (v : Link) : State := { s with lc := v }
/-- The state with other pin levels. -/
def State.setPins (s : State) (v : Pins) : State := { s with pins := v }
/-- The state with another count of free values drawn. -/
def State.setFree (s : State) (v : Nat) : State := { s with free := v }

/-! ### Station mode -/

/-- The station mode is RUNNING. -/
def State.running (s : State) : Bool := s.loader.mode == some .running

/-- The station mode is UNSYNCED, RUNNING or HOLD: the modes in which the blocks take frames. -/
def State.inService (s : State) : Bool :=
  match s.loader.mode with
  | some .unsynced | some .running | some .hold => true
  | some .offline | none => false

/-- The start-up read has ended and the part is powered. -/
def State.started (s : State) : Bool := s.loader.powered && s.loader.mode.isSome

/-! ### Positions on the wrapping counter -/

/-- A count as a line position. -/
def pos (n : Nat) : Pos := BitVec.ofNat 24 n

/-- Position `a` precedes position `b` (01 R2). -/
def precedes (a b : Pos) : Bool := 1 ≤ (b - a).toNat && (b - a).toNat ≤ 8388607

/-- The smaller of the two modular distances (01 R2). -/
def apart (a b : Pos) : Nat := min (a - b).toNat (b - a).toNat

/-- Two positions are within `w` of each other (01 R2). -/
def within (w : Nat) (a b : Pos) : Bool := apart a b ≤ w

/-- A target is reached once it no longer follows the line position (01 R6). -/
def atOrPast (linePos target : Pos) : Bool := !precedes linePos target

/-- Signed distance of a position from a reference, shifted to a plain number: the order of the Piece Table (02 R18)
and of the job list (05 R80). -/
def orderKey (ref k : Pos) : Nat := (k - ref + 8388608#24).toNat

/-- Division rounded upward. -/
def ceilDiv (a b : Nat) : Nat := (a + b - 1) / b

/-! ### Free choices -/

/-- A free index below `n`; nothing is drawn when there is no choice (assumption log 7). -/
def drawIndex (n : Nat) (s : State) : Nat × State :=
  if n ≤ 1 then (0, s) else (Config.freeValue s.free % n, s.setFree (s.free + 1))

/-- Two effects of one event that no rule orders, in a free order. -/
def inEitherOrder (f g : State → State) (s : State) : State :=
  match drawIndex 2 s with
  | (0, s') => g (f s')
  | (_, s') => f (g s')

/-- Apply an effect to each item, in a free order. -/
def inAnyOrder (f : Pos → State → State) : Nat → List Pos → State → State
  | 0, _, s => s
  | n + 1, items, s =>
    match items with
    | [] => s
    | _ =>
      let (i, s') := drawIndex items.length s
      match items[i]? with
      | none => s'
      | some k => inAnyOrder f n (items.eraseIdx i) (f k s')

/-! ### Slot areas -/

/-- What an erased or never programmed byte of a slot area reads as (assumption log 4). -/
def erasedByte : Byte := 0xFF#8

/-- Read one byte of an area. -/
def memRead : Memory → Nat → Byte
  | [], _ => erasedByte
  | (b, v) :: rest, a => if a = b then v else if a < b then erasedByte else memRead rest a

/-- Write one byte of an area, keeping its canonical form. -/
def memWrite : Memory → Nat → Byte → Memory
  | [], a, v => if v = erasedByte then [] else [(a, v)]
  | (b, w) :: rest, a, v =>
    if a < b then (if v = erasedByte then (b, w) :: rest else (a, v) :: (b, w) :: rest)
    else if a = b then (if v = erasedByte then rest else (a, v) :: rest)
    else (b, w) :: memWrite rest a v

/-- Write bytes from an offset on. -/
def memWriteRun : Memory → Nat → List Byte → Memory
  | m, _, [] => m
  | m, a, v :: rest => memWriteRun (memWrite m a v) (a + 1) rest

/-- Write the bytes an operation left wrong. -/
def memWriteCells (m : Memory) (cells : List Host.Cell) : Memory := cells.foldl (fun m c => memWrite m c.1 c.2) m

/-- Read `n` bytes from an offset on. -/
def memReadRun : Nat → Nat → Memory → List Byte
  | 0, _, _ => []
  | n + 1, a, m =>
    let rest := m.dropWhile (fun c => c.1 < a)
    memRead rest a :: memReadRun n (a + 1) rest

/-- Offsets strictly rising from `low` on, inside the area, and no entry equal to an erased byte. -/
def Memory.wfFrom (low : Nat) : Memory → Bool
  | [] => true
  | (a, v) :: rest => low ≤ a && a < Config.areaBytes && v != erasedByte && Memory.wfFrom (a + 1) rest

/-- The canonical form of a slot area. -/
def Memory.wf (m : Memory) : Bool := Memory.wfFrom 0 m

/-! ### Slots -/

/-- The other slot. -/
def SlotId.other : SlotId → SlotId
  | .a => .b
  | .b => .a

/-- A slot descriptor. -/
def Tariff.slot (t : Tariff) : SlotId → Slot
  | .a => t.slotA
  | .b => t.slotB

/-- Write a slot descriptor. -/
def Tariff.setSlot (t : Tariff) (id : SlotId) (v : Slot) : Tariff :=
  match id with
  | .a => { t with slotA := v }
  | .b => { t with slotB := v }

/-- A status record of the tariff memory. -/
def Tariff.record (t : Tariff) : SlotId → Option SlotRecord
  | .a => t.recordA
  | .b => t.recordB

/-- Write a status record of the tariff memory. -/
def Tariff.setRecord (t : Tariff) (id : SlotId) (v : Option SlotRecord) : Tariff :=
  match id with
  | .a => { t with recordA := v }
  | .b => { t with recordB := v }

/-- A slot area of the tariff memory. -/
def Tariff.area (t : Tariff) : SlotId → Memory
  | .a => t.areaA
  | .b => t.areaB

/-- Replace a slot area of the tariff memory. -/
def Tariff.setArea (t : Tariff) (id : SlotId) (v : Memory) : Tariff :=
  match id with
  | .a => { t with areaA := v }
  | .b => { t with areaB := v }

/-- The ACTIVE slot, if any (04 R61). -/
def Tariff.active (t : Tariff) : Option SlotId :=
  if t.slotA.state = .active then some .a else if t.slotB.state = .active then some .b else none

/-! ### The record table -/

/-- A record is debited here (02 R20): its debit is queued, in write or complete. -/
def Record.debitedHere (r : Record) : Bool :=
  match r.claim with
  | .debitWait | .armed | .printing => true
  | .opened | .foreign | .claiming | .claimed | .ended => r.pieceNumber.isSome

/-- The record's debit is complete, or it is not debited here: its report can be composed (02 R32). -/
def Record.reportReady (r : Record) : Bool := r.pieceNumber.isSome || !r.debitedHere

/-- Put a record at its place in key order (02 R18). -/
def insertByKey (linePos : Pos) (r : Record) : List Record → List Record
  | [] => [r]
  | x :: xs => if orderKey linePos r.key ≤ orderKey linePos x.key then r :: x :: xs else x :: insertByKey linePos r xs

/-- Records in key order for a line position (02 R18). -/
def sortByKey (linePos : Pos) (rs : List Record) : List Record := rs.foldr (insertByKey linePos) []

/-- Bring the table into the key order of the line position as it now stands (02 R18). -/
def reorder (s : State) : State := s.setTable { s.table with records := sortByKey s.lpu.linePos s.table.records }

/-- Of two records within the window of a key, the nearer one; at equal distance the one whose key precedes the
other (02 R19). -/
def nearer (k : Pos) (a b : Record) : Record :=
  if apart a.key k < apart b.key k then a
  else if apart b.key k < apart a.key k then b
  else if precedes a.key b.key then a else b

/-- The record that a key matches among some records (02 R19). -/
def matchAmong (w : Nat) (k : Pos) (rs : List Record) : Option Record :=
  rs.foldl
    (fun best r =>
      if within w r.key k then
        match best with
        | none => some r
        | some b => some (nearer k b r)
      else best)
    none

/-- The record that a key matches, whatever its presence (02 R19). -/
def State.matching (s : State) (k : Pos) : Option Record := matchAmong s.loader.config.window k s.table.records

/-- The record of a key (keys are unique in the table, 02 R18; assumption log 27). -/
def State.record (s : State) (k : Pos) : Option Record := s.table.records.find? (fun r => r.key == k)

/-- Change the record of a key. -/
def State.updateRecord (s : State) (k : Pos) (f : Record → Record) : State :=
  s.setTable { s.table with records := s.table.records.map (fun r => if r.key == k then f r else r) }

/-- Insert a record in key order. -/
def State.insertRecord (s : State) (r : Record) : State :=
  s.setTable { s.table with records := insertByKey s.lpu.linePos r s.table.records }

/-- A walk attached to the record of a key becomes detached (05 R94). -/
def detachWalk (k : Pos) (s : State) : State :=
  match s.rater.walk with
  | some w => if w.record = some k then s.setRater { s.rater with walk := some { w with record := none } } else s
  | none => s

/-- Remove the record of a key with everything held for it (02 R30). -/
def removeRecord (k : Pos) (s : State) : State :=
  let s := detachWalk k s
  let s := s.setTable { s.table with records := s.table.records.filter (fun r => !(r.key == k)) }
  if s.lpu.entryOwner = some k then s.setLpu { s.lpu with entryOwner := none } else s

/-! ### The transmit queue -/

/-- Kind codes (09 Table 9-2). -/
def Kind.code : Kind → Nat
  | .lineReset => 0 | .claim => 1 | .release => 2 | .pause => 3 | .resume => 4 | .job => 5 | .date => 6
  | .pieceReport => 7 | .dispute => 8 | .credit => 9 | .accountQuery => 10 | .accountReport => 11
  | .clearScale => 12 | .statusQuery => 13 | .statusReport => 14 | .refusal => 15 | .online => 16
  | .tariffOpen => 17 | .tariffData => 18 | .tariffClose => 19

/-- The arbitration value of a frame (09 R169). -/
def arbitrationValue (k : Kind) (source : Node) : Nat := k.code * 16 + source.toNat

/-- A frame as it is offered to the queue; its payload is the one of its kind in 09 Table 9-3 (R171). -/
def newEntry (kind : Kind) (dest : Node) (payload : List Byte) : TxEntry :=
  { kind := kind, dest := dest, payload := payload, failures := 0, record := none, onMedium := false,
    withdrawn := false }

/-- The place of an admitted frame: behind every frame of its own or a lower arbitration value (09 R178). Every frame
of the queue carries the own source, so kind codes give the order. -/
def insertEntry (e : TxEntry) : List TxEntry → List TxEntry
  | [] => [e]
  | x :: xs => if x.kind.code ≤ e.kind.code then x :: insertEntry e xs else e :: x :: xs

/-- The queue has room for `n` frames (09 R179). -/
def State.hasRoom (s : State) (n : Nat) : Bool := s.lc.queue.length + n ≤ Config.queuePlaces

/-- Put frames that are offered together into the queue (09 R178, R179). -/
def enqueue (es : List TxEntry) (s : State) : State :=
  s.setLc { s.lc with queue := es.foldl (fun q e => insertEntry e q) s.lc.queue }

/-- Offer frames to the queue: admitted together or dropped together (09 R179), as the two parts of one report are (09
R171). -/
def offer (es : List TxEntry) (s : State) : State := if s.hasRoom es.length then enqueue es s else s

end Sys2Proof.Machine
end

