-- ==== Sys2Proof/Machine/Operands.lean ====
section
/-! DEFINITION. The byte forms: fields of payloads, of the configuration record and of the tariff image, and the two
cyclic redundancy checks (11). -/

namespace Sys2Proof.Machine

/-! ### Multi-byte fields, most significant byte first -/

/-- The value of bytes, most significant first. -/
def beNat (bytes : List Byte) : Nat := bytes.foldl (fun n b => n * 256 + b.toNat) 0

/-- `n` bytes of a value, most significant first. -/
def beBytes : Nat → Nat → List Byte
  | 0, _ => []
  | n + 1, v => beBytes n (v / 256) ++ [BitVec.ofNat 8 v]

/-- The field of `n` bytes at an offset. -/
def fieldAt (off n : Nat) (bytes : List Byte) : Nat := beNat ((bytes.drop off).take n)

/-- A bit of a byte field. -/
def bitAt (off bit : Nat) (bytes : List Byte) : Bool := (fieldAt off 1 bytes).testBit bit

/-- Cut bytes, or columns, into pieces of one size. -/
def pieces {α : Type} (size : Nat) : Nat → List α → List (List α)
  | 0, _ => []
  | n + 1, xs => xs.take size :: pieces size n (xs.drop size)

/-- A two's complement value of `w` bits. -/
def signedOf (w v : Nat) : Int := (BitVec.ofNat w v).toInt

/-! ### CRC-32 of the configuration record and the tariff image (04 IMAGE CONTENTS) -/

/-- One bit of the reflected CRC-32, polynomial 04C11DB7 hex. -/
def crc32Bit (c : Nat) : Nat := if c % 2 = 1 then (c / 2) ^^^ 0xEDB88320 else c / 2

/-- One byte of the reflected CRC-32. -/
def crc32Byte (c : Nat) (b : Byte) : Nat :=
  crc32Bit (crc32Bit (crc32Bit (crc32Bit (crc32Bit (crc32Bit (crc32Bit (crc32Bit (c ^^^ b.toNat))))))))

/-- CRC-32: initial value and final exclusive-OR FFFFFFFF hex, reflected input and output. -/
def crc32 (bytes : List Byte) : BitVec 32 := BitVec.ofNat 32 (bytes.foldl crc32Byte 0xFFFFFFFF ^^^ 0xFFFFFFFF)

/-! ### CRC-16 of a frame (09 R170, 11 Table 11-1) -/

/-- The lowest `n` bits of a value, most significant first. -/
def bitsOf : Nat → Nat → List Bool
  | 0, _ => []
  | n + 1, v => v.testBit n :: bitsOf n v

/-- One bit of the CRC-16, polynomial 1021 hex, not reflected. -/
def crc16Bit (c : Nat) (bit : Bool) : Nat :=
  if decide (32768 ≤ c) == bit then c * 2 % 65536 else (c * 2 % 65536) ^^^ 0x1021

/-- CRC-16: initial value FFFF hex, no final exclusive-OR. -/
def crc16 (bits : List Bool) : BitVec 16 := BitVec.ofNat 16 (bits.foldl crc16Bit 0xFFFF)

/-- The bits of a frame that its check covers, in sending order (11 Table 11-1). -/
def checkedBits (kind : Nat) (source dest : Node) (payload : List Byte) : List Bool :=
  bitsOf 5 kind ++ bitsOf 4 source.toNat ++ bitsOf 4 dest.toNat ++ bitsOf 4 payload.length ++
    payload.flatMap (fun b => bitsOf 8 b.toNat)

/-- The frame that the station sends for an entry of its queue (09 R169, R170). -/
def frameOf (source : Node) (e : TxEntry) : LinkFrame :=
  { kind := e.kind, source := source, dest := e.dest, payload := e.payload,
    check := crc16 (checkedBits e.kind.code source e.dest e.payload) }

/-- The payload length of a good frame: at most 12 (09 R170). -/
def payloadFits (payload : List Byte) : Bool := payload.length ≤ 12

/-- A frame is good at a receiver: its check matches and its payload length is at most 12 (09 R170). -/
def frameGood (f : LinkFrame) : Bool :=
  f.check == crc16 (checkedBits f.kind.code f.source f.dest f.payload) && payloadFits f.payload

/-- A frame of another node is good here: it did not end before its check was complete, and it is good (09 R170). -/
def arrivedGood (kind : Kind) (src dst : Node) (body : FrameBody) : Bool :=
  match body.check with
  | some check => frameGood { kind := kind, source := src, dest := dst, payload := body.payload, check := check }
  | none => false

/-! ### Payload codes (11 Table 11-3) -/

/-- The service of a code. -/
def serviceOf : Nat → Option Service
  | 0 => some .none
  | 1 => some .tracked
  | 2 => some .signed
  | 3 => some .both
  | _ => none

/-- The slot of a code. -/
def slotIdOf : Nat → Option SlotId
  | 0 => some .a
  | 1 => some .b
  | _ => none

/-- Outcome codes, 0 when absent. -/
def outcomeCode : Option PieceOutcome → Nat
  | none => 0
  | some .printed => 1
  | some .defective => 2
  | some .spoiled => 3
  | some .unfranked => 4

/-- Pass reason codes. -/
def PassReason.code : PassReason → Nat
  | .none => 0 | .inhibited => 1 | .lateRate => 2 | .rateFault => 3 | .noWeight => 4 | .tailgate => 5 | .funds => 6
  | .queueFull => 7 | .lateClaim => 8 | .linkAbandoned => 9 | .hold => 10 | .releasedLate => 11 | .lateDebit => 12

/-- Rating fault codes. -/
def RatingFault.code : RatingFault → Nat
  | .noJob => 1 | .noTariff => 2 | .formatRejected => 3 | .noEntry => 4 | .formatBarred => 5 | .overweight => 6
  | .overLastStep => 7 | .zeroValue => 8 | .overCap => 9 | .readError => 10

/-- Refusal reasons (09 R184). -/
inductive RefusalReason where
  | busy | range | state | sequence | full | notAllowed
  deriving DecidableEq, Repr

/-- Refusal reason codes. -/
def RefusalReason.code : RefusalReason → Nat
  | .busy => 1 | .range => 2 | .state => 3 | .sequence => 4 | .full => 5 | .notAllowed => 6

/-- Station mode codes. -/
def StationMode.code : StationMode → Nat
  | .offline => 0 | .unsynced => 1 | .running => 2 | .hold => 3

/-- Mode reason codes. -/
def ModeReason.code : ModeReason → Nat
  | .none => 0
  | .hold .reversed => 1 | .hold .jam => 2 | .hold .link => 3
  | .config .read => 4 | .config .length => 5 | .config .crc => 6 | .config .station => 7 | .config .range => 8
  | .config .geometry => 9 | .config .order => 10

/-- Slot state codes. -/
def SlotState.code : SlotState → Nat
  | .empty => 0 | .loading => 1 | .invalid => 2 | .ready => 3 | .active => 4 | .superseded => 5

/-- Invalid reason codes, 0 when absent. -/
def invalidCode : Option InvalidReason → Nat
  | none => 0
  | some .crc => 1
  | some .structural => 2

/-- 1 for a set bit. -/
def bitNat (b : Bool) : Nat := if b then 1 else 0

/-! ### Kinds and their payload lengths (09 R171, 11 Table 11-2, R198) -/

/-- The payload length below which a received frame of a kind is ignored; a TARIFF DATA needs 3 bytes. -/
def Kind.payloadLength : Kind → Nat
  | .lineReset | .pause | .resume | .accountQuery | .clearScale | .statusQuery => 0
  | .claim => 10
  | .release => 3
  | .job => 7
  | .date => 5
  | .pieceReport => 11
  | .dispute => 7
  | .credit => 6
  | .accountReport => 11
  | .statusReport => 7
  | .refusal => 5
  | .online => 6
  | .tariffOpen => 7
  | .tariffData => 3
  | .tariffClose => 5

/-- Terminal kinds (09 R171). -/
def Kind.terminal : Kind → Bool
  | .lineReset | .pause | .resume | .job | .date | .credit | .accountQuery | .clearScale | .statusQuery
  | .tariffOpen | .tariffData | .tariffClose => true
  | .claim | .release | .pieceReport | .dispute | .accountReport | .statusReport | .refusal | .online => false

/-- Replies (09 R171). -/
def Kind.reply (k : Kind) : Bool := k == .refusal || k == .statusReport || k == .accountReport

/-- Report kinds (09 R171). -/
def Kind.report (k : Kind) : Bool := k == .pieceReport || k.reply

/-! ### The configuration record (11 Table 11-4) -/

/-- A field description of three bytes. -/
def fieldOf (off : Nat) (bytes : List Byte) : Field :=
  { start := fieldAt off 1 bytes, top := fieldAt (off + 1) 1 bytes, blanked := fieldAt (off + 2) 1 bytes == 1 }

/-- The values of a configuration record. -/
def parseConfig (b : List Byte) : ConfigCopy :=
  let width := fieldAt 50 1 b
  let cellWidth := fieldAt 51 1 b
  { station := fieldAt 2 1 b
    offset := fieldAt 3 2 b
    ps := fieldAt 5 2 b
    pe := fieldAt 7 2 b
    d := fieldAt 9 2 b
    k := fieldAt 11 2 b
    s := fieldAt 13 2 b
    x := fieldAt 15 2 b
    window := fieldAt 17 1 b
    vmax := fieldAt 18 2 b
    vhyst := fieldAt 20 1 b
    tolerance := fieldAt 21 1 b
    jamLength := fieldAt 22 2 b
    gain := fieldAt 24 3 b
    initialZero := signedOf 24 (fieldAt 27 3 b)
    minSamples := fieldAt 30 1 b
    settleBand := fieldAt 31 1 b
    zeroBand := fieldAt 32 2 b
    zeroFaultLimit := fieldAt 34 1 b
    cpm := fieldAt 35 1 b
    valueCap := fieldAt 36 3 b
    disputeTolerance := fieldAt 39 1 b
    disputeLimit := fieldAt 40 1 b
    creditLimit := fieldAt 41 4 b
    warningLevel := fieldAt 45 4 b
    pitch := fieldAt 49 1 b
    width := width
    cellWidth := cellWidth
    cellHeight := fieldAt 52 1 b
    fieldValue := fieldOf 53 b
    fieldDate := fieldOf 56 b
    fieldNumber := fieldOf 59 b
    fieldSerial := fieldOf 62 b
    serial := fieldAt 65 3 b
    frames := pieces width 4 ((pieces 6 (4 * width) (b.drop 68)).map (fun c => BitVec.ofNat 48 (beNat c)))
    glyphs := pieces cellWidth 12
      ((pieces 2 (12 * cellWidth) (b.drop (68 + 24 * width))).map (fun c => BitVec.ofNat 16 (beNat c))) }

/-- A value lies in a range, both ends included. -/
def inRange (low high v : Nat) : Bool := low ≤ v && v ≤ high

/-- The ranges of one field description (08 Table 8-1). -/
def Field.inRanges (f : Field) : Bool := inRange 0 239 f.start && inRange 0 47 f.top

/-- The display bytes of the record are 0 or 1 (11 R199). -/
def displaysInRange (b : List Byte) : Bool := [55, 58, 61, 64].all (fun off => fieldAt off 1 b ≤ 1)

/-- Check 5 of the configuration: every value lies in its range (10 R190, Tables 3-1, 5-1, 6-1, 7-1, 8-1, 10-2). -/
def ConfigCopy.inRanges (c : ConfigCopy) : Bool :=
  [inRange 0 4095 c.ps, inRange 0 4095 c.pe, inRange 0 4095 c.d, inRange 0 4095 c.k, inRange 0 4095 c.s,
    inRange 0 4095 c.x, inRange 1 4095 c.vmax, inRange 1 4095 c.jamLength, inRange 1 1048575 c.gain,
    inRange 4 64 c.minSamples, inRange 1 65535 c.zeroBand, inRange 1 8 c.zeroFaultLimit, inRange 1 8 c.cpm,
    inRange 1 99999 c.valueCap, inRange 1 16 c.disputeLimit, inRange 1 99999999 c.creditLimit,
    inRange 0 99999999 c.warningLevel, inRange 1 15 c.pitch, inRange 8 240 c.width, inRange 4 10 c.cellWidth,
    inRange 5 16 c.cellHeight, c.fieldValue.inRanges, c.fieldDate.inRanges, c.fieldNumber.inRanges,
    c.fieldSerial.inRanges, inRange 0 999999 c.serial].all id

/-- Check 7 of the configuration: the landmark order and the relations of pitch, width and hysteresis (10 R190). -/
def ConfigCopy.ordered (c : ConfigCopy) : Bool :=
  0 < c.ps && c.ps < c.pe && c.pe < c.d && c.d < c.k && c.k ≤ c.s && c.s + (c.width - 1) * c.pitch < c.x &&
    c.vhyst < c.vmax

/-- The first configuration check that fails on what the port delivered, if any (10 R189, R190; assumption log 29). -/
def configFaultOf : Option (List Byte) → Option ConfigFault
  | none => some .read
  | some bytes =>
    let declared := fieldAt 0 2 bytes
    let b := bytes.take declared
    let c := parseConfig b
    if bytes.length < 2 then some .read
    else if declared < 360 || 6072 < declared then some .length
    else if bytes.length < declared then some .read
    else if crc32 (b.take (declared - 4)) != BitVec.ofNat 32 (fieldAt (declared - 4) 4 b) then some .crc
    else if !inRange 1 14 c.station then some .station
    else if !(c.inRanges && displaysInRange b) then some .range
    else if declared != 72 + 24 * (c.width + c.cellWidth) then some .geometry
    else if !c.ordered then some .order
    else none

/-! ### The tariff image (11 TARIFF IMAGE) -/

/-- The length of an image with `t` step tables (11 R200). -/
def imageLength (t : Nat) : Nat := 2072 + 104 * t

/-- The limits and image id of a header's 20 bytes (11 Table 11-5). -/
def parseLimits (b : List Byte) : Limits :=
  { image := fieldAt 0 1 b
    lengthStandard := fieldAt 3 2 b
    thickStandard := fieldAt 5 1 b
    lengthBulky := fieldAt 6 2 b
    thickBulky := fieldAt 8 1 b
    lengthOversize := fieldAt 9 2 b
    thickOversize := fieldAt 11 1 b }

/-- A directory entry of 16 bytes (11 Table 11-6). -/
def parseEntry (b : List Byte) : DirEntry :=
  { present := bitAt 0 7 b
    table := fieldAt 1 1 b
    factor := fieldAt 2 2 b
    standard := bitAt 0 2 b
    bulky := bitAt 0 1 b
    oversize := bitAt 0 0 b
    bulkyFee := fieldAt 4 2 b
    oversizeFee := fieldAt 6 2 b
    trackedFee := fieldAt 8 2 b
    signedFee := fieldAt 10 2 b
    minimum := fieldAt 12 2 b
    frameSel := fieldAt 14 1 b }

/-- A step of 6 bytes. -/
def parseStep (b : List Byte) : Step := { bound := fieldAt 0 2 b, base := fieldAt 2 4 b }

/-- The used steps of a step table of 104 bytes: as many as its step count, at most the 16 it stores. -/
def parseSteps (b : List Byte) : List Step := (pieces 6 (min (fieldAt 0 1 b) 16) (b.drop 8)).map parseStep

/-- Offset of a directory entry in an image. -/
def entryOffset (cls zone : Nat) : Nat := 20 + 16 * (16 * cls + zone)

/-- Offset of a step table in an image. -/
def tableOffset (j : Nat) : Nat := 2068 + 104 * j

/-- A directory entry passes the structure check (04 R72). -/
def entryOk (tables : Nat) (e : DirEntry) : Bool :=
  !e.present || (e.table < tables && inRange 1 4000 e.factor && inRange 0 3 e.frameSel)

/-- The bounds of used steps rise strictly (04 R72). -/
def boundsRise : List Step → Bool
  | a :: b :: rest => a.bound < b.bound && boundsRise (b :: rest)
  | _ => true

/-- A step table passes the structure check (04 R72). -/
def tableOk (b : List Byte) : Bool :=
  inRange 1 16 (fieldAt 0 1 b) &&
    (parseSteps b).all (fun t => inRange 1 25000 t.bound && t.base ≤ 999999) && boundsRise (parseSteps b)

/-- The structure check of a loaded image against its descriptor (04 R72). -/
def structureOk (slot : Slot) (b : List Byte) : Bool :=
  let tables := fieldAt 12 1 b
  fieldAt 0 1 b == slot.image && fieldAt 1 2 b == slot.ordinal && inRange 1 40 tables &&
    slot.length == imageLength tables &&
    (pieces 16 128 (b.drop 20)).all (fun e => entryOk tables (parseEntry e)) &&
    (pieces 104 tables (b.drop 2068)).all tableOk

/-- The CRC check of a loaded image: computed, stored and carried values are equal (04 R71). -/
def crcOk (length : Nat) (carried : BitVec 32) (b : List Byte) : Bool :=
  5 ≤ length && crc32 (b.take (length - 4)) == carried && BitVec.ofNat 32 (fieldAt (length - 4) 4 b) == carried

end Sys2Proof.Machine
end

