-- ==== Sys2Proof/Machine/Flags.lean ====
section
/-! DEFINITION. The flags the part computes: eligibility, the inhibit set as bits, tail flag, funds warning, printing
indicator, counts, and the STATUS REPORT and ACCOUNT REPORT made of them. -/

namespace Sys2Proof.Machine

/-- The inhibit set is empty (06 R106). -/
def Inhibit.isEmpty (i : Inhibit) : Bool :=
  !(i.noJob || i.noDate || i.noTariff || i.overspeed || i.scaleFailed || i.scaleSuspect || i.layout || i.blind ||
    i.exhausted || i.paused)

/-- The inhibit set as a number: bit 0 NO_JOB to bit 9 PAUSED (11 Table 11-2). -/
def Inhibit.bits (i : Inhibit) : Nat :=
  bitNat i.noJob + 2 * bitNat i.noDate + 4 * bitNat i.noTariff + 8 * bitNat i.overspeed + 16 * bitNat i.scaleFailed +
    32 * bitNat i.scaleSuspect + 64 * bitNat i.layout + 128 * bitNat i.blind + 256 * bitNat i.exhausted +
    512 * bitNat i.paused

/-- The station is eligible (06 R106). -/
def State.eligible (s : State) : Bool := s.running && s.inhibit.isEmpty

/-- The station is the tail: no peer has a higher number (06 R125). -/
def State.isTail (s : State) : Bool := s.cc.peers.all (fun p => p.station ≤ s.loader.config.station)

/-- The marked count of the commit history ring (06 R129). -/
def markedCount (ring : List RingEntry) : Nat := (ring.filter (fun e => e.marked)).length

/-- The number of the job in force, 0 when none is (05 R80). -/
def currentJobNumber (jobs : List Job) : Nat :=
  match jobs.find? (fun j => j.inForce) with
  | some j => j.number
  | none => 0

/-- The content of a bank. -/
def Account.bank (au : Account) : BankId → Option NvSet
  | .zero => au.bank0
  | .one => au.bank1

/-- The registers that every reader sees: the current bank's, or the faulted values (07 R135, R137). -/
def Account.registers (au : Account) : NvSet :=
  if au.faulted then NvSet.blank else (au.bank au.current).getD NvSet.blank

/-- The available amount (07 R138). -/
def Account.available (au : Account) : Nat := au.registers.descending - au.reserved - au.committed

/-- The AU can reserve an amount (07 R139). -/
def Account.canReserve (au : Account) (p : Nat) : Bool :=
  p ≤ au.available && au.registers.count + au.outstanding < Config.pieceCap

/-- The funds warning (07 R149). -/
def State.fundsWarning (s : State) : Bool := s.au.registers.descending < s.loader.config.warningLevel

/-- The printing indicator (08 R167). -/
def State.printing (s : State) : Bool := s.ip.owner.isSome

/-- The image id of the ACTIVE slot, 0 when none is (04 R61). -/
def Tariff.activeImage (t : Tariff) : Nat :=
  match t.active with
  | some id => (t.slot id).image
  | none => 0

/-- The payload of STATUS REPORT part 1 (09 R171, R185, 11 Table 11-2); in OFFLINE the inhibit set and the record count are
reported as 0. -/
def statusPart1 (s : State) (mode : StationMode) : List Byte :=
  let offline := mode == .offline
  beBytes 1 (32 * mode.code + s.loader.reason.code) ++ beBytes 2 (if offline then 0 else s.inhibit.bits) ++
    beBytes 3 s.lpu.linePos.toNat ++ beBytes 1 (if offline then 0 else s.table.records.length) ++
    beBytes 1 s.lc.queue.length

/-- The payload of STATUS REPORT part 2 (09 R171, R185, 11 Table 11-2); in OFFLINE every field is 0. -/
def statusPart2 (s : State) (mode : StationMode) : List Byte :=
  if mode == .offline then beBytes 1 128 ++ beBytes 6 0
  else
    beBytes 1 (128 + 8 * s.tariff.slotA.state.code + s.tariff.slotB.state.code) ++
      beBytes 1 (4 * invalidCode s.tariff.slotA.invalid + invalidCode s.tariff.slotB.invalid) ++
      beBytes 1 s.tariff.activeImage ++ beBytes 1 (currentJobNumber s.rater.jobs) ++ beBytes 1 s.wu.zeroFaults ++
      beBytes 1 (markedCount s.cc.ring) ++
      beBytes 1 (4 * bitNat s.isTail + 2 * bitNat s.fundsWarning + bitNat s.printing)

/-- The two frames of a STATUS REPORT, composed at one moment, from the state as it stands (09 R171, R185). -/
def statusReport (s : State) : List TxEntry :=
  match s.loader.mode with
  | none => []
  | some mode =>
    [newEntry .statusReport 0#4 (statusPart1 s mode), newEntry .statusReport 0#4 (statusPart2 s mode)]

/-- The payload of ACCOUNT REPORT part 1 (07 R148, 09 R171). -/
def accountPart1 (au : Account) : List Byte :=
  beBytes 5 au.registers.ascending ++ beBytes 5 au.registers.control ++ beBytes 2 au.registers.nextCredit

/-- The payload of ACCOUNT REPORT part 2 (07 R148, 09 R171): the last 7 bytes hold descending × 2^28 + reserved. -/
def accountPart2 (au : Account) : List Byte :=
  beBytes 4 au.registers.count ++ beBytes 7 (au.registers.descending * 2 ^ 28 + au.reserved)

/-- The two frames of an ACCOUNT REPORT, composed at one moment (07 R148, 09 R171). -/
def accountReport (au : Account) : List TxEntry :=
  [newEntry .accountReport 0#4 (accountPart1 au), newEntry .accountReport 0#4 (accountPart2 au)]

/-- A REFUSAL of a frame of a kind (09 R171, R184). -/
def refusalEntry (kind : Kind) (reason : RefusalReason) (detail : Nat) : TxEntry :=
  newEntry .refusal 0#4 (beBytes 1 kind.code ++ beBytes 1 reason.code ++ beBytes 3 detail)

/-- Answer a frame with a REFUSAL, dropped when the queue has no room (09 R179, R184). -/
def refuse (kind : Kind) (reason : RefusalReason) (detail : Nat) (s : State) : State :=
  offer [refusalEntry kind reason detail] s

end Sys2Proof.Machine
end

