-- ==== Sys2Proof/Machine/Reports.lean ====
section
/-! DEFINITION. The exit of a piece and its PIECE REPORT (02 R31 to R34), the blind horizon (02 R28, R29), and what
follows when a frame leaves the transmit queue (02 R33). -/

namespace Sys2Proof.Machine

/-- The payload of PIECE REPORT part 1 (02 R34, 09 R171, 11 Table 11-2). -/
def reportPart1 (r : Record) : List Byte :=
  beBytes 3 r.key.toNat ++ beBytes 1 (16 * outcomeCode r.outcome + r.pass.code) ++
    beBytes 1 (16 * (r.foreign.map (fun f => f.station)).getD 0 + 8 * bitNat r.lost + 4 * bitNat r.conflict +
      2 * bitNat r.tailgate + bitNat r.disputeSent) ++
    beBytes 1 (r.job.getD 0) ++ beBytes 4 (r.pieceNumber.getD 0) ++ beBytes 1 r.thickness

/-- Content bits and low bits of byte 3 of PIECE REPORT part 2. -/
def reportContent : Option RatingResult → Nat
  | none => 0
  | some (.rated p) => 32 + p.step
  | some (.fault f) => 64 + f.code

/-- Postage value and image id of PIECE REPORT part 2, 0 when absent. -/
def reportRating : Option RatingResult → List Byte
  | some (.rated p) => beBytes 3 p.value ++ beBytes 1 p.image
  | some (.fault _) | none => beBytes 3 0 ++ beBytes 1 0

/-- The payload of PIECE REPORT part 2 (02 R34, 09 R171, 11 Table 11-2). A record without a length reports 0; none is ever
reported (assumption log 22). -/
def reportPart2 (r : Record) : List Byte :=
  beBytes 3 r.key.toNat ++ beBytes 1 (128 + reportContent r.rating) ++ beBytes 2 (r.weighing.weight.getD 0xFFFF) ++
    reportRating r.rating ++ beBytes 2 (r.length.getD 0)

/-- The two frames of a PIECE REPORT, composed at one moment (02 R34, 09 R171). -/
def pieceReport (r : Record) : List TxEntry :=
  [newEntry .pieceReport 0#4 (reportPart1 r), newEntry .pieceReport 0#4 (reportPart2 r)]

/-- Admit both frames of a record's report together and remove the record (02 R32, R33, 09 R171). -/
def sendReport (r : Record) (s : State) : State := removeRecord r.key (enqueue (pieceReport r) s)

/-- The EXITED records whose report can be composed, in key order (02 R33). -/
def dueReports (s : State) : List Record :=
  s.table.records.filter (fun r => r.presence == .exited && r.reportReady)

/-- Offer reports one after another, up to the first that is not admitted (02 R33). -/
def offerEach : List Record → State → State
  | [], s => s
  | r :: rest, s => if s.hasRoom 2 then offerEach rest (sendReport r s) else s

/-- The table offers the reports of its EXITED records (02 R33, R38). -/
def offerReports (s : State) : State := offerEach (dueReports s) s

/-- A frame has left the queue, and the same event has another effect that no rule orders against the report offers
(02 R33; assumption log 9). -/
def departing (f : State → State) (s : State) : State :=
  if (dueReports s).isEmpty then f s else inEitherOrder offerReports f s

/-- A record needs a report at its exit (02 R31). -/
def needsReport (tail : Bool) (r : Record) : Bool := r.debitedHere || (tail && r.claim != .foreign)

/-- The exit arrival (02 R31, R32), the LOST flag already settled. -/
def exitArrival (k : Pos) (s : State) : State :=
  match s.record k with
  | none => s
  | some r =>
    if !needsReport s.isTail r then removeRecord k s
    else
      let r' := if r.debitedHere then r else { r with outcome := some .unfranked }
      let s := s.updateRecord k (fun _ => r')
      if r'.reportReady && s.hasRoom 2 then sendReport r' s
      else s.updateRecord k (fun r => { r with presence := .exited })

/-- The horizon clearance has been reached: handed in RUNNING only (01 R8, 02 R29). -/
def clearHorizon (s : State) : State :=
  let s := s.setLpu { s.lpu with clearance := none }
  if s.running then
    (s.setTable { s.table with horizon := none }).setInhibit { s.inhibit with blind := false }
  else s

/-- Offer a key to the blind horizon (02 R28); the clearance of a horizon that is set or moved may be reached at once
(01 R6, 02 R26). A key exactly 8,388,608 counts from the held horizon neither precedes, follows nor equals it (01 R2),
and R28 has no case for it: the model keeps the horizon and its clearance (DESIGN CHOICE, unsafe: assumption log 35). -/
def offerHorizon (k : Pos) (s : State) : State :=
  let s := s.setInhibit { s.inhibit with blind := true }
  let moved :=
    match s.table.horizon with
    | none => true
    | some h => precedes h k
  if moved then
    let c := k + pos (s.loader.config.offset + s.loader.config.x + 4096)
    let s := (s.setTable { s.table with horizon := some k }).setLpu { s.lpu with clearance := some c }
    if atOrPast s.lpu.linePos c then clearHorizon s else s
  else s

end Sys2Proof.Machine
end

