-- ==== Sys2Proof/Machine/ClaimOps.lean ====
section
/-! DEFINITION. What the claim, rating and accounting meanings share: reservations (07 R138 to R142), the withdrawal of
an own CLAIM (06 R112) and the dispute test (06 R126, R127). -/

namespace Sys2Proof.Machine

/-! ### Reservations and debits -/

/-- Reserve an amount for a record (07 R139). -/
def reserveFunds (k : Pos) (p : Nat) (s : State) : State :=
  (s.setAu { s.au with reserved := s.au.reserved + p, outstanding := s.au.outstanding + 1 }).updateRecord k
    (fun r => { r with reserved := some p })

/-- Release a record's reserved amount; its own claim part keeps the amount (07 R140). -/
def releaseFunds (r : Record) (s : State) : State :=
  s.setAu
    { s.au with reserved := s.au.reserved - r.reserved.getD 0, outstanding := s.au.outstanding - 1 }

/-- The other bank. -/
def BankId.other : BankId → BankId
  | .zero => .one
  | .one => .zero

/-- Write a bank. -/
def Account.setBank (au : Account) (id : BankId) (v : Option NvSet) : Account :=
  match id with
  | .zero => { au with bank0 := v }
  | .one => { au with bank1 := v }

/-- The generation of the next write (07 R136). -/
def nextGeneration (au : Account) : Nat := (au.registers.generation + 1) % 256

/-- The set a debit write puts into the other bank (07 R142). -/
def debitSet (au : Account) (p : Nat) : NvSet :=
  { au.registers with
    descending := au.registers.descending - p
    ascending := au.registers.ascending + p
    count := au.registers.count + 1
    generation := nextGeneration au }

/-- The set a credit write puts into the other bank (07 R145). -/
def creditSet (au : Account) (x : Nat) : NvSet :=
  { au.registers with
    descending := au.registers.descending + x
    control := au.registers.control + x
    nextCredit := if au.registers.nextCredit = 65535 then 1 else au.registers.nextCredit + 1
    generation := nextGeneration au }

/-- Start the debit write of the front of the queue when no write is in flight (07 R142). -/
def startDebit (s : State) : State :=
  match s.au.write, s.au.queue with
  | none, item :: rest =>
    s.setAu { s.au with queue := rest, write := some (.debit item (debitSet s.au item.amount)) }
  | _, _ => s

/-- The written bank becomes current (07 R136). -/
def completeWrite (set : NvSet) (au : Account) : Account :=
  { au.setBank au.current.other (some set) with current := au.current.other, write := none }

/-! ### The own CLAIM in the queue -/

/-- An entry is the CLAIM of a record, not yet withdrawn. -/
def TxEntry.isClaimOf (k : Pos) (e : TxEntry) : Bool :=
  e.kind == .claim && e.record == some k && !e.withdrawn

/-- The record's CLAIM waits in the queue, not in an attempt. -/
def claimWaits (k : Pos) (s : State) : Bool := s.lc.queue.any (fun e => e.isClaimOf k && !e.onMedium)

/-- Withdraw a record's CLAIM: a waiting frame is removed at once, a frame in an attempt is noted as withdrawn
(06 R112). What follows from a frame leaving the queue is the caller's. -/
def dropClaim (k : Pos) (s : State) : State :=
  s.setLc
    { s.lc with
      queue := (s.lc.queue.filter (fun e => !(e.isClaimOf k && !e.onMedium))).map
        (fun e => if e.isClaimOf k then { e with withdrawn := true } else e) }

/-- The CLAIM frame of a record (06 R107, 09 R171, 11 Table 11-2). -/
def claimEntry (r : Record) (p : RatingPart) : TxEntry :=
  { newEntry .claim 15#4
      (beBytes 3 r.key.toNat ++ beBytes 2 (r.weighing.weight.getD 0) ++ beBytes 1 p.step ++ beBytes 1 p.image ++
        beBytes 3 p.value) with
    record := some r.key }

/-- A RELEASE for a key (06 R120, 09 R171). -/
def releaseEntry (k : Pos) : TxEntry := newEntry .release 15#4 (beBytes 3 k.toNat)

/-- End a record's claim with a pass reason. -/
def endClaim (k : Pos) (why : PassReason) (s : State) : State :=
  s.updateRecord k (fun r => { r with claim := .ended, pass := why })

/-! ### The dispute test -/

/-- The absolute difference of two amounts. -/
def absDiff (a b : Nat) : Nat := (a - b) + (b - a)

/-- A DISPUTE frame (06 R127, 09 R171, 11 Table 11-2). -/
def disputeEntry (r : Record) (f : ForeignClaim) (p : RatingPart) (weight : Nat) : TxEntry :=
  newEntry .dispute (BitVec.ofNat 4 f.station)
    (beBytes 3 r.key.toNat ++ beBytes 1 f.station ++ beBytes 2 weight ++ beBytes 1 p.step)

/-- Evaluate the dispute test of a record, once (06 R126): the record is RATED and settled, holds a foreign part, and
DISPUTE_SENT is clear. -/
def disputeTest (k : Pos) (s : State) : State :=
  match s.record k with
  | none => s
  | some r =>
    match r.phase, r.rating, r.foreign with
    | .rated, some (.rated p), some f =>
      if r.weighing.settled && !r.disputeSent then
        let s := s.updateRecord k (fun r => { r with disputeSent := true })
        let weight := r.weighing.weight.getD 0
        if p.image = f.image ∧ p.step ≠ f.step ∧ s.loader.config.disputeTolerance < absDiff weight f.weight then
          offer [disputeEntry r f p weight] s
        else s
      else s
    | _, _, _ => s

end Sys2Proof.Machine
end

