-- ==== Sys2Proof/Machine/Receive.lean ====
section
/-! DEFINITION. How a frame of another node is found good or bad, and how a delivered one reaches its block
(09 R170, R173, R174, R176, R177, 11 R198). -/

namespace Sys2Proof.Machine

/-- What the LC does with a delivered frame. -/
inductive Verdict where
  | ignored | notAllowed | handed
  deriving DecidableEq, Repr

/-- The cases of 09 R176 and R177 in their order, then the length of 11 R198. -/
def screen (kind : Kind) (src dst : Node) (payload : List Byte) (s : State) : Verdict :=
  if s.loader.mode = none then .ignored
  else if dst ≠ s.loader.number ∧ dst ≠ 15#4 then .ignored
  else if src = 15#4 then .ignored
  else if s.loader.mode = some .offline then (if kind = .statusQuery ∧ src = 0#4 then .handed else .ignored)
  else if kind.terminal ∧ src ≠ 0#4 then (if kind = .lineReset then .ignored else .notAllowed)
  else if kind = .lineReset ∧ dst ≠ 15#4 then .ignored
  else if kind.report then .ignored
  else if payload.length < kind.payloadLength then .ignored
  else .handed

/-- The end of a frame of another node (09 R170, R173, R174). The station takes frames from the first idle it has seen
on (09 R172, R188). It drives the reject slot of a frame it found bad and the accept slot of one it found good, and
discards both the bad frame and a good one whose reject slot another receiver drove; any other is delivered (assumption
log 16). -/
def receive (kind : Kind) (src dst : Node) (body : FrameBody) (act : State → State) (s : State) :
    Host.Outcome State Fault Refusal :=
  if !(s.loader.powered && s.lc.idleSeen) then .next s
  else if !arrivedGood kind src dst body then .next (s.setLc { s.lc with receiver := false, drove := .reject })
  else
    let s := s.setLc { s.lc with receiver := false, drove := .accept }
    if body.rejected then .next s
    else
      match screen kind src dst body.payload s with
      | .ignored => .next s
      | .notAllowed => .next (refuse kind .notAllowed src.toNat s)
      | .handed => .next (act s)

end Sys2Proof.Machine
end

