-- ==== Sys2Proof/Machine/Tariff.lean ====
section
/-! DEFINITION. The Tariff Store: the port, status writes, loading, checking, the station date and changeover (04). -/

namespace Sys2Proof.Machine

/-! ### Status writes (04 R62) -/

/-- Request a status write of a slot; a request that has not started yet serves for the new state too. -/
def requestStatus (id : SlotId) (t : Tariff) : Tariff :=
  if t.writes.any (fun q => q.slot == id) then t
  else { t with writes := t.writes ++ [{ slot := id, readyFirst := false }] }

/-- Request the status write of a slot that has gone from READY to ACTIVE: a write that would first record READY still
does. -/
def requestActiveStatus (id : SlotId) (t : Tariff) : Tariff :=
  if t.writes.any (fun q => q.slot == id) then
    { t with writes := t.writes.map (fun q => if q.slot == id then { q with readyFirst := true } else q) }
  else { t with writes := t.writes ++ [{ slot := id, readyFirst := false }] }

/-- The write records READY though the slot is ACTIVE (04 R62). A slot that has left ACTIVE again when the write starts is
recorded as it stands then, in that one write: R62 gives two answers there, and this one is the model's (DESIGN CHOICE,
unsafe: assumption log 37). -/
def StatusReq.recordsReady (t : Tariff) (q : StatusReq) : Bool := q.readyFirst && (t.slot q.slot).state == .active

/-- What a status write records when it starts. -/
def statusRecordOf (t : Tariff) (q : StatusReq) : SlotRecord :=
  let slot := t.slot q.slot
  { state := if q.recordsReady t then .ready else slot.state, image := slot.image, ordinal := slot.ordinal,
    length := slot.length, invalid := slot.invalid }

/-- A status record holds ACTIVE. -/
def holdsActive : Option SlotRecord → Bool
  | some r => r.state == .active
  | none => false

/-- A status write may start: one that would record ACTIVE waits while a write of the other slot is pending whose record
still holds ACTIVE. -/
def mayStart (t : Tariff) (q : StatusReq) : Bool :=
  !((statusRecordOf t q).state == .active && t.writes.any (fun o => o.slot == q.slot.other) &&
    holdsActive (t.record q.slot.other))

/-! ### The port (04 R63) -/

/-- Mark the first write buffer entry that has not started, if there is one. -/
def startProgram : List BufferEntry → Option (List BufferEntry)
  | [] => none
  | e :: rest =>
    if e.started then (startProgram rest).map (fun l => e :: l) else some ({ e with started := true } :: rest)

/-- The next operation of the load in progress: the erase, then the programs, then the check reads. -/
def loadNext (t : Tariff) : Tariff :=
  match t.load with
  | none => t
  | some ld =>
    match ld.erase with
    | .waiting => { t with load := some { ld with erase := .running }, port := some (.erase ld.slot true) }
    | .running => t
    | .done =>
      match startProgram t.buffer with
      | some b => { t with buffer := b, port := some .program }
      | none => if ld.check.isSome then { t with port := some (.checkRead true) } else t

/-- A free port takes its next operation: a walk read that waits, the oldest status write that may start, the load. -/
def portTakes (walking : Bool) (t : Tariff) : Tariff :=
  if t.port.isSome then t
  else if walking then { t with port := some .walkRead }
  else
    match t.writes.find? (mayStart t) with
    | some q =>
      { t with
        port := some (.statusWrite q.slot (statusRecordOf t q) (q.recordsReady t))
        writes := t.writes.filter (fun o => !(o.slot == q.slot)) }
    | none => loadNext t

/-- The port takes its next operation, once the start-up read has ended. -/
def portNext (s : State) : State :=
  if s.started then s.setTariff (portTakes s.rater.walk.isSome s.tariff) else s

/-! ### Changeover (04 R76, R77) -/

/-- A slot is a candidate for a station date. -/
def Slot.candidate (slot : Slot) (ordinal : Nat) : Bool := slot.state == .ready && slot.ordinal ≤ ordinal

/-- The slot that becomes ACTIVE at an evaluation, if any. -/
def Tariff.chosen (t : Tariff) (ordinal : Nat) : Option SlotId :=
  if t.slotA.candidate ordinal then
    if t.slotB.candidate ordinal && t.slotA.ordinal < t.slotB.ordinal then some .b else some .a
  else if t.slotB.candidate ordinal then some .b
  else none

/-- Give a slot a state. -/
def Tariff.enter (t : Tariff) (id : SlotId) (state : SlotState) : Tariff :=
  t.setSlot id { t.slot id with state := state }

/-- The changeover to a slot: the other slot becomes SUPERSEDED if it was ACTIVE or a candidate. The leaving slot's
status write is requested first (assumption log 20). -/
def Tariff.changeTo (t : Tariff) (id : SlotId) (ordinal : Nat) : Tariff :=
  let o := t.slot id.other
  let t := if o.state == .active || o.candidate ordinal then requestStatus id.other (t.enter id.other .superseded) else t
  requestActiveStatus id (t.enter id .active)

/-- The RE empties the cache and the limit copy (05 R89). -/
def flushCache (r : Rater) : Rater := { r with cache := emptyCache, limits := none }

/-- Evaluate changeover (04 R76); a changeover clears NO_TARIFF and flushes the rate line cache (04 R77). -/
def evaluateChangeover (s : State) : State :=
  match s.tariff.date with
  | none => s
  | some d =>
    match s.tariff.chosen d.ordinal with
    | none => s
    | some id =>
      ((s.setTariff (s.tariff.changeTo id d.ordinal)).setInhibit { s.inhibit with noTariff := false }).setRater
        (flushCache s.rater)

/-! ### Loading (04 R66 to R74) -/

/-- The abandonment of a load when TARIFF OPEN names a slot (04 R74). -/
def abandonLoad (opened : SlotId) (t : Tariff) : Tariff :=
  match t.load with
  | none => t
  | some ld =>
    let port :=
      match t.port with
      | some (.erase slot _) => some (.erase slot false)
      | some (.checkRead _) => some (.checkRead false)
      | p => p
    let t := { t with load := none, buffer := t.buffer.filter (fun e => e.started), port := port }
    if ld.slot = opened then t else requestStatus ld.slot (t.setSlot ld.slot Slot.blank)

/-- Open a slot for a new load (04 R66). -/
def openSlot (id : SlotId) (image ordinal length : Nat) (t : Tariff) : Tariff :=
  let t := abandonLoad id t
  let t := t.setSlot id
    { state := .loading, image := image, ordinal := ordinal, length := length, accepted := 0, invalid := none }
  requestStatus id { t with load := some { slot := id, erase := .waiting, check := none } }

/-- A slot holds a valid image under an id (04 R66, test 4). -/
def Slot.holdsImage (slot : Slot) (image : Nat) : Bool :=
  (slot.state == .ready || slot.state == .active || slot.state == .superseded) && slot.image == image

/-- A check of the slot's load is in flight. -/
def Tariff.checking (t : Tariff) (id : SlotId) : Bool :=
  match t.load with
  | some ld => ld.slot == id && ld.check.isSome
  | none => false

/-- The erase of the slot's load has completed. -/
def Tariff.erased (t : Tariff) (id : SlotId) : Bool :=
  match t.load with
  | some ld => ld.slot == id && ld.erase == .done
  | none => false

/-- TARIFF OPEN (04 R66). -/
def takeTariffOpen (p : List Byte) (s : State) : State :=
  let image := fieldAt 1 1 p
  let ordinal := fieldAt 2 2 p
  let length := fieldAt 4 3 p
  match slotIdOf (fieldAt 0 1 p) with
  | none => refuse .tariffOpen .range 0 s
  | some id =>
    if image = 0 ∨ length = 0 ∨ Config.areaBytes < length then refuse .tariffOpen .range 0 s
    else if (s.tariff.slot id).state = .active then refuse .tariffOpen .state 0 s
    else if (s.tariff.slot id).state = .superseded ∧ s.tariff.marker = some id then refuse .tariffOpen .busy 0 s
    else if (s.tariff.slot id.other).holdsImage image then refuse .tariffOpen .state 0 s
    else portNext (s.setTariff (openSlot id image ordinal length s.tariff))

/-- TARIFF DATA (04 R68). -/
def takeTariffData (p : List Byte) (s : State) : State :=
  let offset := fieldAt 1 2 p
  let data := p.drop 3
  match slotIdOf (fieldAt 0 1 p) with
  | none => refuse .tariffData .range 0 s
  | some id =>
    let slot := s.tariff.slot id
    if slot.state ≠ .loading ∨ s.tariff.checking id then refuse .tariffData .state 0 s
    else if offset ≠ slot.accepted then refuse .tariffData .sequence slot.accepted s
    else if data.length = 0 ∨ 8 < data.length ∨ slot.length < offset + data.length then refuse .tariffData .range 0 s
    else if Config.bufferEntries ≤ s.tariff.buffer.length then refuse .tariffData .busy 0 s
    else
      let t := s.tariff.setSlot id { slot with accepted := slot.accepted + data.length }
      portNext (s.setTariff
        { t with buffer := t.buffer ++ [{ slot := id, offset := offset, data := data, started := false }] })

/-- TARIFF CLOSE (04 R70). -/
def takeTariffClose (p : List Byte) (s : State) : State :=
  match slotIdOf (fieldAt 0 1 p) with
  | none => refuse .tariffClose .range 0 s
  | some id =>
    let slot := s.tariff.slot id
    if slot.state ≠ .loading ∨ s.tariff.checking id then refuse .tariffClose .state 0 s
    else if !s.tariff.erased id ∨ !s.tariff.buffer.isEmpty then refuse .tariffClose .busy 0 s
    else if slot.accepted < slot.length then refuse .tariffClose .sequence slot.accepted s
    else
      let check : Check := { crc := BitVec.ofNat 32 (fieldAt 1 4 p), offset := 0, failed := false }
      portNext (s.setTariff { s.tariff with load := some { slot := id, erase := .done, check := some check } })

/-- DATE (04 R75). -/
def takeDate (p : List Byte) (s : State) : State :=
  let date : StationDate :=
    { ordinal := fieldAt 0 2 p, day := fieldAt 2 1 p, month := fieldAt 3 1 p, year := fieldAt 4 1 p }
  if !(inRange 1 31 date.day && inRange 1 12 date.month && date.year ≤ 99) then refuse .date .range 0 s
  else
    let s := (s.setTariff { s.tariff with date := some date }).setInhibit { s.inhibit with noDate := false }
    portNext (evaluateChangeover s)

/-! ### Completions of the port -/

/-- Bytes an operation left wrong, as far as they lie where it wrote. -/
def wrongWithin (low high : Nat) (cells : List Host.Cell) : List Host.Cell :=
  cells.filter (fun c => low ≤ c.1 && c.1 < high && c.1 < Config.areaBytes)

/-- The completion of an erase (04 R67). -/
def finishErase (id : SlotId) (live : Bool) (wrong : List Host.Cell) (t : Tariff) : Tariff :=
  let t := { t with port := none }
  let t := t.setArea id (memWriteCells [] (wrongWithin 0 Config.areaBytes wrong))
  match t.load with
  | some ld => if live then { t with load := some { ld with erase := .done } } else t
  | none => t

/-- The completion of a program (04 R69). -/
def finishProgram (wrong : List Host.Cell) (t : Tariff) : Tariff :=
  let t := { t with port := none }
  match t.buffer.find? (fun e => e.started) with
  | none => t
  | some e =>
    let area := memWriteRun (t.area e.slot) e.offset e.data
    let area := memWriteCells area (wrongWithin e.offset (e.offset + e.data.length) wrong)
    { t.setArea e.slot area with buffer := t.buffer.filter (fun x => !x.started) }

/-- The descriptor of a slot whose check has completed (04 R73). -/
def checkedSlot (slot : Slot) (carried : BitVec 32) (readFailed : Bool) (bytes : List Byte) : Slot :=
  if readFailed || !crcOk slot.length carried bytes then
    { slot with state := .invalid, accepted := 0, invalid := some .crc }
  else if !structureOk slot bytes then { slot with state := .invalid, accepted := 0, invalid := some .structural }
  else { slot with state := .ready, accepted := 0, invalid := none }

/-- The completion of the last check read (04 R73). -/
def finishCheck (id : SlotId) (c : Check) (s : State) : State :=
  let slot := s.tariff.slot id
  let slot := checkedSlot slot c.crc c.failed (memReadRun slot.length 0 (s.tariff.area id))
  let s := s.setTariff (requestStatus id { s.tariff.setSlot id slot with load := none })
  if slot.state = .ready then evaluateChangeover s else s

/-- A status write completes (04 R62, R63). -/
def execStatusWriteComplete (wrong : Bool) (s : State) : Host.Outcome State Fault Refusal :=
  match s.loader.powered, s.tariff.port with
  | true, some (.statusWrite id record again) =>
    let t := ({ s.tariff with port := none }).setRecord id (if wrong then none else some record)
    .next (portNext (s.setTariff (if again then requestStatus id t else t)))
  | _, _ => .next s

/-- An erase completes (04 R67). -/
def execEraseComplete (wrong : List Host.Cell) (s : State) : Host.Outcome State Fault Refusal :=
  match s.loader.powered, s.tariff.port with
  | true, some (.erase id live) => .next (portNext (s.setTariff (finishErase id live wrong s.tariff)))
  | _, _ => .next s

/-- A program completes (04 R69). -/
def execProgramComplete (wrong : List Host.Cell) (s : State) : Host.Outcome State Fault Refusal :=
  match s.loader.powered, s.tariff.port with
  | true, some .program => .next (portNext (s.setTariff (finishProgram wrong s.tariff)))
  | _, _ => .next s

/-- A check read completes (04 R71, R73); the result of an abandoned check is not taken (04 R74). -/
def execCheckReadComplete (count : Nat) (error : Bool) (s : State) : Host.Outcome State Fault Refusal :=
  match s.loader.powered, s.tariff.port with
  | true, some (.checkRead live) =>
    let s := s.setTariff { s.tariff with port := none }
    match live, s.tariff.load with
    | true, some ld =>
      match ld.check with
      | some c =>
        let c := { c with offset := c.offset + count, failed := c.failed || error }
        if (s.tariff.slot ld.slot).length ≤ c.offset then .next (portNext (finishCheck ld.slot c s))
        else .next (portNext (s.setTariff { s.tariff with load := some { ld with check := some c } }))
      | none => .next (portNext s)
    | _, _ => .next (portNext s)
  | _, _ => .next s

/-! ### Tariff frames -/

/-- TARIFF OPEN is delivered (04 R66). -/
def execTariffOpen (src dst : Node) (body : FrameBody) (s : State) : Host.Outcome State Fault Refusal :=
  receive .tariffOpen src dst body (takeTariffOpen body.payload) s

/-- TARIFF DATA is delivered (04 R68). -/
def execTariffData (src dst : Node) (body : FrameBody) (s : State) : Host.Outcome State Fault Refusal :=
  receive .tariffData src dst body (takeTariffData body.payload) s

/-- TARIFF CLOSE is delivered (04 R70). -/
def execTariffClose (src dst : Node) (body : FrameBody) (s : State) : Host.Outcome State Fault Refusal :=
  receive .tariffClose src dst body (takeTariffClose body.payload) s

/-- DATE is delivered (04 R75). -/
def execDate (src dst : Node) (body : FrameBody) (s : State) : Host.Outcome State Fault Refusal :=
  receive .date src dst body (takeDate body.payload) s

end Sys2Proof.Machine
end

