-- ==== Sys2Proof/Machine/Rating.lean ====
section
/-! DEFINITION. The Rating Engine: jobs, format, cache, walks, the stages of the computation and late rating (05). -/

namespace Sys2Proof.Machine

/-! ### Jobs (05 R80 to R82) -/

/-- The reference key of the job list: the key of the job in force, or the first key accepted into the empty list. -/
def referenceKey (r : Rater) : Pos :=
  match r.jobs.find? (fun j => j.inForce) with
  | some j => j.key
  | none => r.ref

/-- Put a job at its place in effective-key order. -/
def insertJob (ref : Pos) (j : Job) : List Job → List Job
  | [] => [j]
  | x :: xs => if orderKey ref j.key ≤ orderKey ref x.key then j :: x :: xs else x :: insertJob ref j xs

/-- Jobs in effective-key order. -/
def sortJobs (ref : Pos) (js : List Job) : List Job := js.foldr (insertJob ref) []

/-- Accept a job: replace the job of its effective key, or insert it as a pending job (05 R81). -/
def acceptJob (j : Job) (r : Rater) : Rater :=
  if r.jobs.any (fun x => x.key == j.key) then
    { r with jobs := r.jobs.map (fun x => if x.key == j.key then { j with inForce := x.inForce } else x) }
  else
    let ref := if r.jobs.isEmpty then j.key else referenceKey r
    { r with jobs := insertJob ref j r.jobs, ref := ref }

/-- JOB (05 R81). -/
def takeJob (p : List Byte) (s : State) : State :=
  let number := fieldAt 0 1 p
  let cls := fieldAt 1 1 p
  let zone := fieldAt 2 1 p
  match serviceOf (fieldAt 3 1 p) with
  | none => refuse .job .range 0 s
  | some service =>
    if number = 0 ∨ 7 < cls ∨ 15 < zone then refuse .job .range 0 s
    else if Config.jobPlaces ≤ s.rater.jobs.length then refuse .job .full 0 s
    else
      let j : Job := { number := number, cls := cls, zone := zone, service := service, key := pos (fieldAt 4 3 p),
                       inForce := false }
      (s.setRater (acceptJob j s.rater)).setInhibit
        { s.inhibit with noJob := s.inhibit.noJob && !s.rater.jobs.isEmpty }

/-- The jobs that may become the job in force: those after it, or every job when none is in force (05 R82). -/
def candidateJobs (js : List Job) : List Job :=
  if js.any (fun j => j.inForce) then (js.dropWhile (fun j => !j.inForce)).drop 1 else js

/-- A job applies to a piece key. -/
def Job.appliesTo (j : Job) (k : Pos) : Bool := precedes j.key k || j.key == k

/-- The job that a sighting key takes, if any (05 R82). -/
def jobTaken (js : List Job) (k : Pos) : Option Job :=
  match ((candidateJobs js).filter (fun j => j.appliesTo k)).getLast? with
  | some j => some j
  | none => js.find? (fun j => j.inForce)

/-- The job list after a selection: the taken job is in force and the jobs before it are discarded (05 R82). -/
def selectJob (k : Pos) (r : Rater) : Rater :=
  match jobTaken r.jobs k with
  | none => r
  | some j =>
    if j.inForce then r
    else
      let rest := ((r.jobs.dropWhile (fun x => !(x.key == j.key))).drop 1)
      { r with jobs := sortJobs j.key ({ j with inForce := true } :: rest), ref := j.key }

/-- The job number and job terms that a job gives a record. -/
def Job.terms (j : Job) : JobTerms := { cls := j.cls, zone := j.zone, service := j.service }

/-- The RE keeps one job at LINE RESET, with effective key 0 (05 R103). -/
def keepOneJob (r : Rater) : Rater :=
  let kept :=
    match r.jobs.find? (fun j => j.inForce) with
    | some j => some j
    | none => r.jobs.head?
  match kept with
  | some j => { r with jobs := [{ j with key := 0#24, inForce := true }], ref := 0#24 }
  | none => r

/-! ### Format (05 R85) -/

/-- Classify a length in counts and a thickness; `none` is FORMAT_REJECTED. -/
def classify (cpm : Nat) (m : Limits) (length thickness : Nat) : Option Format :=
  let mm := length / cpm
  if mm ≤ m.lengthStandard && thickness ≤ m.thickStandard then some .standard
  else if mm ≤ m.lengthBulky && thickness ≤ m.thickBulky then some .bulky
  else if mm ≤ m.lengthOversize && thickness ≤ m.thickOversize then some .oversize
  else none

/-! ### The rate line cache (05 R86 to R89) -/

/-- The set of a class and zone. -/
def setOf (cls zone : Nat) : Nat := (cls + zone) % Config.cacheSets

/-- A line is the one of a class and zone. -/
def RateLine.isFor (cls zone : Nat) (l : RateLine) : Bool := l.cls == cls && l.zone == zone

/-- The lines of a set, from most to least recent. -/
def linesOf (cache : List (List RateLine)) (cls zone : Nat) : List RateLine := cache.getD (setOf cls zone) []

/-- Look a class and zone up (05 R87). -/
def lookup (cache : List (List RateLine)) (cls zone : Nat) : Option RateLine :=
  (linesOf cache cls zone).find? (RateLine.isFor cls zone)

/-- A hit makes its line the most recent of its set (05 R87). -/
def touch (l : RateLine) (cache : List (List RateLine)) : List (List RateLine) :=
  cache.set (setOf l.cls l.zone)
    (l :: (linesOf cache l.cls l.zone).filter (fun x => !x.isFor l.cls l.zone))

/-- A fill takes an empty way or replaces the least recent line, and is the most recent line (05 R88). -/
def fill (l : RateLine) (cache : List (List RateLine)) : List (List RateLine) :=
  cache.set (setOf l.cls l.zone) (l :: (linesOf cache l.cls l.zone).take (Config.cacheWays - 1))

/-! ### The stages of the computation (05 R98 to R100) -/

/-- The entry permits a format. -/
def DirEntry.permits (e : DirEntry) : Format → Bool
  | .standard => e.standard
  | .bulky => e.bulky
  | .oversize => e.oversize

/-- The surcharge of a format. -/
def DirEntry.surcharge (e : DirEntry) : Format → Nat
  | .standard => 0
  | .bulky => e.bulkyFee
  | .oversize => e.oversizeFee

/-- The fee of a service. -/
def DirEntry.fee (e : DirEntry) : Service → Nat
  | .none => 0
  | .tracked => e.trackedFee
  | .signed => e.signedFee
  | .both => e.trackedFee + e.signedFee

/-- Stages 3 to 5: the amount T′ in tariff units (05 R99). -/
def amountOf (e : DirEntry) (f : Format) (service : Service) (base : Nat) : Nat :=
  max (ceilDiv (base * e.factor) 1000 + e.surcharge f + e.fee service) e.minimum

/-- The computation on an entry and its used steps (05 R98 to R100), with the first fault of its stages. -/
def computeRating (image cap : Nat) (e : DirEntry) (steps : List Step) (f : Format) (service : Service) (weight : Nat)
    (overFlag : Bool) : RatingResult :=
  if !e.present then .fault .noEntry
  else if !e.permits f then .fault .formatBarred
  else if overFlag then .fault .overweight
  else
    match steps.findIdx? (fun t => weight ≤ t.bound) with
    | none => .fault .overLastStep
    | some i =>
      let value := ceilDiv (amountOf e f service ((steps[i]?.map (fun t => t.base)).getD 0)) 10
      if value = 0 then .fault .zeroValue
      else if cap < value then .fault .overCap
      else .rated { image := image, step := i, value := value, frameSel := e.frameSel }

/-- Write a rating or a rating fault into a record (05 R100, R101); a RATED record may complete the condition of the
dispute test (06 R126). -/
def writeRating (k : Pos) (res : RatingResult) (s : State) : State :=
  match res with
  | .rated p => disputeTest k (s.updateRecord k (fun r => { r with rating := some (.rated p), phase := .rated }))
  | .fault f => s.updateRecord k (fun r => { r with rating := some (.fault f), phase := .faulted })

/-- Run the computation for a record on a line or on what a walk read. -/
def rateRecord (r : Record) (f : Format) (image : Nat) (e : DirEntry) (steps : List Step) (s : State) : State :=
  match r.terms with
  | none => writeRating r.key (.fault .noJob) s
  | some t =>
    writeRating r.key
      (computeRating image s.loader.config.valueCap e steps f t.service (r.weighing.weight.getD 0) r.weighing.overFlag) s

/-! ### Walks (05 R91 to R95) -/

/-- Start a walk on the ACTIVE slot for a record (05 R91, 04 R64). -/
def startWalk (r : Record) (t : JobTerms) (id : SlotId) (stage : WalkStage) (f : Option Format) (s : State) : State :=
  let w : Walk :=
    { record := some r.key, slot := id, image := (s.tariff.slot id).image, cls := t.cls, zone := t.zone,
      length := r.length.getD 0, thickness := r.thickness, stage := stage, format := f, entry := none, noFill := false }
  let s := s.updateRecord r.key (fun r => { r with phase := .rating })
  (s.setRater { s.rater with walk := some w }).setTariff { s.tariff with marker := some id }

/-- The RE takes the request of a record (05 R84). -/
def takeRequest (r : Record) (s : State) : State :=
  let s := s.updateRecord r.key (fun r => { r with waiting := false })
  match r.terms with
  | none => writeRating r.key (.fault .noJob) s
  | some t =>
    match s.tariff.active with
    | none => writeRating r.key (.fault .noTariff) s
    | some id =>
      match s.rater.limits with
      | none => startWalk r t id .header none s
      | some m =>
        if m.image ≠ (s.tariff.slot id).image then startWalk r t id .header none s
        else
          match classify s.loader.config.cpm m (r.length.getD 0) r.thickness with
          | none => writeRating r.key (.fault .formatRejected) s
          | some f =>
            match lookup s.rater.cache t.cls t.zone with
            | none => startWalk r t id .directory (some f) s
            | some l =>
              rateRecord r f l.image l.entry l.steps
                (s.setRater { s.rater with cache := touch l s.rater.cache })

/-- The RE takes requests from the front of the rating order until one starts a walk or the order is empty (05 R83). -/
def runRater : Nat → State → State
  | 0, s => s
  | n + 1, s =>
    if s.rater.walk.isSome then s
    else
      match s.table.records.find? (fun r => r.waiting) with
      | none => s
      | some r => runRater n (takeRequest r s)

/-- The RE takes every request it can take now. -/
def takeRequests (s : State) : State := runRater (s.table.records.length + 1) s

/-- What a walk ends with: a rating fault, a line found after its header read, or the entry and steps it read. -/
inductive WalkEnd where
  | fault (f : RatingFault)
  | hit (line : RateLine)
  | read (entry : DirEntry) (steps : List Step)
  deriving DecidableEq, Repr

/-- The fill that a walk's end allows (05 R88, R92). -/
def fillAfter (w : Walk) (e : WalkEnd) (s : State) : State :=
  match e with
  | .read entry steps =>
    if !w.noFill && (s.tariff.slot w.slot).state == .active then
      s.setRater
        { s.rater with
          cache := fill { image := w.image, cls := w.cls, zone := w.zone, entry := entry, steps := steps }
            s.rater.cache }
    else s
  | .hit _ | .fault _ => s

/-- What a walk's end writes into the record it is attached to (05 R92, R93). -/
def rateAttached (w : Walk) (e : WalkEnd) (s : State) : State :=
  match w.record with
  | none => s
  | some k =>
    match s.record k with
    | none => s
    | some r =>
      match e, w.format with
      | .fault f, _ => writeRating k (.fault f) s
      | .hit l, some f => rateRecord r f l.image l.entry l.steps s
      | .read entry steps, some f => rateRecord r f w.image entry steps s
      | .hit _, none | .read _ _, none => s

/-- The completion of a walk (05 R92): marker, fill, rating, next request. -/
def endWalk (w : Walk) (e : WalkEnd) (s : State) : State :=
  let s := (s.setRater { s.rater with walk := none }).setTariff { s.tariff with marker := none }
  takeRequests (rateAttached w e (fillAfter w e s))

/-- A walk goes on to its next read. -/
def continueWalk (w : Walk) (s : State) : State := s.setRater { s.rater with walk := some w }

/-- The header of a walk has been read (05 R91, read 1). -/
def headerRead (w : Walk) (error : Bool) (s : State) : State :=
  if error then endWalk w (.fault .readError) s
  else
    let m := parseLimits (memReadRun 20 0 (s.tariff.area w.slot))
    let s := s.setRater { s.rater with limits := some m }
    match classify s.loader.config.cpm m w.length w.thickness with
    | none => endWalk w (.fault .formatRejected) s
    | some f =>
      let w := { w with format := some f, stage := .directory }
      if (s.tariff.slot w.slot).state = .active then
        match lookup s.rater.cache w.cls w.zone with
        | some l => endWalk w (.hit l) (s.setRater { s.rater with cache := touch l s.rater.cache })
        | none => continueWalk w s
      else continueWalk w s

/-- The directory entry of a walk has been read (05 R91, read 2). -/
def directoryRead (w : Walk) (error : Bool) (s : State) : State :=
  if error then endWalk w (.fault .readError) s
  else
    let e := parseEntry (memReadRun 16 (entryOffset w.cls w.zone) (s.tariff.area w.slot))
    if !e.present then endWalk w (.fault .noEntry) s
    else continueWalk { w with entry := some e, stage := .steps } s

/-- The step table of a walk has been read (05 R91, read 3). -/
def stepsRead (w : Walk) (error : Bool) (s : State) : State :=
  if error then endWalk w (.fault .readError) s
  else
    match w.entry with
    | none => s
    | some e => endWalk w (.read e (parseSteps (memReadRun 104 (tableOffset e.table) (s.tariff.area w.slot)))) s

/-- The completion of the walk read that the walk in flight awaits, if it is the read of a stage. -/
def walkReadComplete (stage : WalkStage) (act : Walk → State → State) (s : State) : State :=
  match s.loader.powered, s.tariff.port, s.rater.walk with
  | true, some .walkRead, some w =>
    if w.stage = stage then portNext (act w (s.setTariff { s.tariff with port := none })) else s
  | _, _, _ => s

/-- A header read completes (05 R91). -/
def execHeaderReadComplete (error : Bool) (s : State) : Host.Outcome State Fault Refusal :=
  .next (walkReadComplete .header (fun w => headerRead w error) s)

/-- A directory entry read completes (05 R91). -/
def execDirectoryEntryReadComplete (error : Bool) (s : State) : Host.Outcome State Fault Refusal :=
  .next (walkReadComplete .directory (fun w => directoryRead w error) s)

/-- A step table read completes (05 R91). -/
def execStepTableReadComplete (error : Bool) (s : State) : Host.Outcome State Fault Refusal :=
  .next (walkReadComplete .steps (fun w => stepsRead w error) s)

/-! ### Late rating (05 R96) -/

/-- A record that reaches D while WEIGHED or RATING is taken out of rating. -/
def lateRating (k : Pos) (s : State) : State :=
  match s.record k with
  | none => s
  | some r =>
    match r.phase with
    | .weighed => s.updateRecord k (fun r => { r with waiting := false, pass := .lateRate })
    | .rating => detachWalk k (s.updateRecord k (fun r => { r with phase := .weighed, pass := .lateRate }))
    | .none | .measuring | .rated | .faulted => s

/-- JOB is delivered (05 R81). -/
def execJob (src dst : Node) (body : FrameBody) (s : State) : Host.Outcome State Fault Refusal :=
  receive .job src dst body (takeJob body.payload) s

end Sys2Proof.Machine
end

