-- ==== Sys2Proof/Machine/Weighing.lean ====
section
/-! DEFINITION. The Weighing Unit: sample attribution and conversion, the end of weighing, zero tracking and thickness
(03). -/

namespace Sys2Proof.Machine

/-! ### The piece on the platform (03 R43) -/

/-- Leading position of a record; `none` when its leading edge stands behind the entry cell. -/
def leading (linePos : Pos) (r : Record) : Option Nat :=
  match r.sightPos with
  | none => none
  | some p => if precedes linePos p then none else some (linePos - p).toNat

/-- Trailing position of a record; `none` when its trailing edge stands behind the entry cell. -/
def trailing (linePos : Pos) (r : Record) : Option Nat :=
  match r.sightPos, r.length with
  | some p, some l =>
    let tail := p + pos l
    if precedes linePos tail then none else some (linePos - tail).toNat
  | _, _ => some 0

/-- A position is at least a landmark; an edge behind the entry cell is less than every landmark. -/
def atLeast (edge : Option Nat) (m : Nat) : Bool :=
  match edge with
  | some e => m ≤ e
  | none => false

/-- A position is at most a landmark. -/
def atMost (edge : Option Nat) (m : Nat) : Bool :=
  match edge with
  | some e => e ≤ m
  | none => true

/-- A PRESENT record overlaps the platform. -/
def overlaps (c : ConfigCopy) (linePos : Pos) (r : Record) : Bool :=
  r.presence == .present && atLeast (leading linePos r) c.ps && atMost (trailing linePos r) c.pe

/-- A PRESENT record is fully on the platform. -/
def fullyOn (c : ConfigCopy) (linePos : Pos) (r : Record) : Bool :=
  r.presence == .present && atLeast (trailing linePos r) c.ps && atMost (leading linePos r) c.pe

/-- Condition 2 of 03 R44: no PRESENT record but the one of a key overlaps the platform. -/
def aloneOn (c : ConfigCopy) (linePos : Pos) (rs : List Record) (k : Pos) : Bool :=
  rs.all (fun r => r.key == k || !overlaps c linePos r)

/-- The record a sample is attributed to at a line position, if any (03 R44). -/
def attributedAt (linePos : Pos) (s : State) : Option Record :=
  s.table.records.find?
    (fun r =>
      fullyOn s.loader.config linePos r && aloneOn s.loader.config linePos s.table.records r.key &&
        r.phase == .measuring)

/-- The command that waits next is a forward step: it comes together with the event that is taken now (assumption log
36). -/
def State.stepWaits (s : State) : Bool :=
  match s.pending.head? with
  | some (.forwardStep _ _) => true
  | _ => false

/-- The record at whose Pe arrival a sample can be taken first: the forward step that comes together with the sample
brings its leading position to Pe, and the sample is attributed to it there (03 R42, R51; assumption log 36). -/
def attributedAtPe (s : State) : Option Record :=
  if s.stepWaits then
    (attributedAt (s.lpu.linePos + 1#24) s).filter
      (fun r => r.awaits == .pe && leading (s.lpu.linePos + 1#24) r == some s.loader.config.pe)
  else none

/-- A sample is an empty-platform sample (03 R52), the station mode being RUNNING. -/
def platformEmpty (s : State) : Bool :=
  s.table.records.all (fun r => !overlaps s.loader.config s.lpu.linePos r) &&
    !(s.lpu.entryBlocked && s.lpu.entryOwner.isNone) && s.wu.guardPos.isNone

/-! ### Samples (03 R45 to R47) -/

/-- Convert a raw sample to tenths of a gram, rounding toward minus infinity (03 R45). -/
def convertSample (raw zero : Int) (gain : Nat) : Int := (raw - zero) * gain / 65536

/-- Clamp a converted sample to 0 to 25,000 (03 R46). -/
def clampSample (v : Int) : Nat := min v.toNat 25000

/-- Accumulate an attributed sample; at a count of 255 it is discarded (03 R46, R47). -/
def accumulate (v : Int) (w : Weighing) : Weighing :=
  if w.count = 255 then w
  else
    let x := clampSample v
    { w with
      count := w.count + 1
      sum := w.sum + x
      min := some (match w.min with | none => x | some m => Nat.min m x)
      max := some (match w.max with | none => x | some m => Nat.max m x)
      overFlag := w.overFlag || decide (25000 < v) }

/-! ### Zero tracking (03 R54, R55) -/

/-- The effect of an empty-platform sample on the WU. -/
def trackZero (c : ConfigCopy) (raw : Int) (wu : Wu) : Wu :=
  let delta := raw - wu.zero
  if delta.natAbs ≤ c.zeroBand then { wu with zero := wu.zero + delta.tdiv 16, zeroFaults := 0 }
  else { wu with zeroFaults := min (wu.zeroFaults + 1) c.zeroFaultLimit }

/-- An empty-platform sample; an out-of-band one that brings the count to the limit raises SCALE_FAILED. -/
def emptySample (raw : Int) (s : State) : State :=
  let outOfBand := s.loader.config.zeroBand < (raw - s.wu.zero).natAbs
  let wu := trackZero s.loader.config raw s.wu
  let s := s.setWu wu
  if outOfBand && s.loader.config.zeroFaultLimit ≤ wu.zeroFaults then
    s.setInhibit { s.inhibit with scaleFailed := true }
  else s

/-- A sample is converted with the zero offset as it stands and accumulated in the record of a key (03 R45 to R47). -/
def takeSample (raw : Int) (k : Pos) (s : State) : State :=
  let v := convertSample raw s.wu.zero s.loader.config.gain
  s.updateRecord k (fun r => { r with weighing := accumulate v r.weighing })

/-- A scale sample arrives (03 R42). It is classified at the line position it meets. One that is discarded there, and comes
together with the Pe arrival of a record to which it is attributed at Pe, is taken in either order with that arrival:
sample first, it is accumulated, and the end of weighing on the coming step counts it; Pe first, it is discarded (03
R51). The order is a free value (assumption log 7, 36). -/
def execSampleArrival (raw : BitVec 24) (s : State) : Host.Outcome State Fault Refusal :=
  if !(s.loader.powered && s.running) then .next s
  else
    match attributedAt s.lpu.linePos s with
    | some r => .next (takeSample raw.toInt r.key s)
    | none =>
      if platformEmpty s then .next (emptySample raw.toInt s)
      else
        match attributedAtPe s with
        | some r =>
          let (first, s) := drawIndex 2 s
          .next (if first = 0 then takeSample raw.toInt r.key s else s)
        | none => .next s

/-- A gauge reading arrives (03 R57). -/
def execGaugeArrival (reading : BitVec 10) (s : State) : Host.Outcome State Fault Refusal :=
  match s.loader.powered && s.inService && s.lpu.entryBlocked, s.lpu.entryOwner with
  | true, some k =>
    .next (s.updateRecord k (fun r => { r with thickness := max r.thickness (min reading.toNat 255) }))
  | _, _ => .next s

/-! ### End of weighing (03 R48 to R51) -/

/-- The largest spread a settled weighing may have is not exceeded (03 R49). -/
def isSettled (band : Nat) (w : Weighing) : Bool := w.max.getD 0 - w.min.getD 0 ≤ band

/-- The weighing part at a completed end of weighing (03 R49). -/
def weighed (band : Nat) (w : Weighing) : Weighing :=
  { w with
    settled := isSettled band w
    weight := some (if isSettled band w then ceilDiv w.sum w.count else w.max.getD 0) }

/-- A record reaches Pe (03 R48, R49, R51); a WEIGHED record joins the rating order (05 R83). -/
def endOfWeighing (k : Pos) (s : State) : State :=
  match s.record k with
  | none => s
  | some r =>
    if r.phase ≠ .measuring then s
    else if r.weighing.count < s.loader.config.minSamples then
      s.updateRecord k (fun r => { r with phase := .faulted, pass := .noWeight })
    else
      takeRequests
        (s.updateRecord k (fun r =>
          { r with phase := .weighed, waiting := true, weighing := weighed s.loader.config.settleBand r.weighing }))

end Sys2Proof.Machine
end

