-- ==== Sys2Proof/Machine/Printing.lean ====
section
/-! DEFINITION. The Indicium Printer: composition of a column, the start of printing, overrun, columns and the end of
a print (08). -/

namespace Sys2Proof.Machine

/-! ### Column composition (08 R154 to R159) -/

/-- The `n` lowest decimal digits of a value, most significant first. -/
def digits : Nat → Nat → List Nat
  | 0, _ => []
  | n + 1, v => digits n (v / 10) ++ [v % 10]

/-- The glyph code of the blank (08 Table 8-2). -/
def blankGlyph : Nat := 10

/-- The glyph code of the separator (08 Table 8-2). -/
def separatorGlyph : Nat := 11

/-- The glyphs of a field: those of its value, or as many blanks (08 R156). -/
def fieldGlyphs (f : Field) (shown : List Nat) : List Nat :=
  if f.blanked then shown.map (fun _ => blankGlyph) else shown

/-- The glyphs of a shown VALUE field. -/
def valueGlyphs (c : PrintContent) : List Nat := digits 5 c.value

/-- The glyphs of a shown DATE field. -/
def dateGlyphs (c : PrintContent) : List Nat :=
  digits 2 c.day ++ [separatorGlyph] ++ digits 2 c.month ++ [separatorGlyph] ++ digits 2 c.year

/-- The glyphs of a shown NUMBER field. -/
def numberGlyphs (c : PrintContent) : List Nat := digits 9 c.number

/-- The glyphs of a shown SERIAL field. -/
def serialGlyphs (c : PrintContent) : List Nat := digits 6 c.serial

/-- A glyph column placed at a top row: cell rows at the cell height and beyond are ignored (11 R199), and rows past 47
are clipped (08 R159). -/
def placeGlyph (height top : Nat) (g : BitVec 16) : Column :=
  (((g >>> (16 - height)) <<< (16 - height)).setWidth 48 <<< 32) >>> top

/-- The rows that a field places in a column of the indicium (08 R158). -/
def fieldColumn (cfg : ConfigCopy) (f : Field) (glyphs : List Nat) (c : Nat) : Column :=
  let glyphCodes := fieldGlyphs f glyphs
  if f.start ≤ c ∧ c < f.start + glyphCodes.length * cfg.cellWidth then
    let j := c - f.start
    let glyph := cfg.glyphs.getD (glyphCodes.getD (j / cfg.cellWidth) blankGlyph) []
    placeGlyph cfg.cellHeight f.top (glyph.getD (j % cfg.cellWidth) 0#16)
  else 0#48

/-- Column `c` of an indicium: the frame image joined with every field (08 R158). -/
def composeColumn (cfg : ConfigCopy) (p : PrintContent) (c : Nat) : Column :=
  (cfg.frames.getD p.frameSel []).getD c 0#48 ||| fieldColumn cfg cfg.fieldValue (valueGlyphs p) c |||
    fieldColumn cfg cfg.fieldDate (dateGlyphs p) c ||| fieldColumn cfg cfg.fieldNumber (numberGlyphs p) c |||
    fieldColumn cfg cfg.fieldSerial (serialGlyphs p) c

/-! ### Printing a piece (08 R157, R160 to R163) -/

/-- The value and frame image select of a record's rating part. -/
def ratingOf (r : Record) : RatingPart :=
  match r.rating with
  | some (.rated p) => p
  | some (.fault _) | none => { image := 0, step := 0, value := 0, frameSel := 0 }

/-- The print content taken at S (08 R157). An ARMED record always has all these values. -/
def contentOf (s : State) (r : Record) : PrintContent :=
  let date := s.tariff.date.getD { ordinal := 0, day := 0, month := 0, year := 0 }
  { value := (ratingOf r).value, frameSel := (ratingOf r).frameSel, number := r.pieceNumber.getD 0, day := date.day,
    month := date.month, year := date.year, serial := s.loader.config.serial }

/-- The print progress of a record; an absent one reads as nothing printed. -/
def progressOf (r : Record) : PrintProgress := r.print.getD { next := 0, dropped := 0 }

/-- A record overrun by a newer one (08 R161). -/
def overrun (width : Nat) (r : Record) : Record :=
  if r.claim = .printing then
    { r with
      print := some { next := width, dropped := (progressOf r).dropped + (width - (progressOf r).next) }
      claim := .ended
      outcome := some .defective }
  else r

/-- The S arrival at the IP (08 R160): an ARMED record becomes the print owner, and another owner is overrun. -/
def startPrinting (k : Pos) (s : State) : State :=
  match s.record k with
  | none => s
  | some r =>
    if r.claim ≠ .armed then s
    else
      let s :=
        match s.ip.owner with
        | some o => if o.key = k then s else s.updateRecord o.key (overrun s.loader.config.width)
        | none => s
      let s := s.updateRecord k (fun r => { r with claim := .printing, print := some { next := 0, dropped := 0 } })
      s.setIp { s.ip with owner := some { key := k, content := contentOf s r } }

/-- The S arrival at the AU (07 R144): a record still in DEBIT_WAIT is skipped. -/
def skipLateDebit (k : Pos) (s : State) : State :=
  s.updateRecord k (fun r =>
    if r.claim = .debitWait then { r with outcome := some .spoiled, pass := .lateDebit } else r)

/-- A record reaches S: the AU and the IP each act on the claim phase it arrived with (08 R160, 07 R144). -/
def arriveAtS (k : Pos) (s : State) : State := skipLateDebit k (startPrinting k s)

/-- The print of a record ends after its last column (08 R163). -/
def endPrint (dropped : Nat) (r : Record) : Record :=
  { r with claim := .ended, outcome := some (if dropped = 0 then .printed else .defective) }

/-- A record reaches column `c` (08 R162). PH_RDY is read once; the next reading on the same step is the other level
(assumption log 11). -/
def arriveAtColumn (k : Pos) (c : Nat) (s : State) : State :=
  match s.record k, s.ip.owner with
  | some r, some o =>
    if o.key = k ∧ r.claim = .printing then
      let ready := s.pins.phRdy
      let dropped := (progressOf r).dropped + (if ready then 0 else 1)
      let s := s.setPins { s.pins with phRdy := s.pins.phRdyAgain }
      let s := if ready then s.setIp { s.ip with fired := s.ip.fired ++ [composeColumn s.loader.config o.content c] } else s
      let s := s.updateRecord k (fun r => { r with print := some { next := c + 1, dropped := dropped } })
      if c + 1 = s.loader.config.width then
        (s.updateRecord k (endPrint dropped)).setIp { s.ip with owner := none }
      else s
    else s
  | _, _ => s

end Sys2Proof.Machine
end

