-- ==== Sys2Proof/Machine/Hold.lean ====
section
/-! DEFINITION. HOLD requests, HOLD entry, and the part of it that a LINE RESET in RUNNING shares (02 R37, R38, 06
R132, R133, 07 R150, 08 R165, 10 R194). -/

namespace Sys2Proof.Machine

/-- What Table 2-6 makes of one record: `none` when it is removed. -/
def recordAtHold (r : Record) : Option Record :=
  match r.presence with
  | .exited => some r
  | .noticed | .present =>
    let spoiled : Record :=
      match r.outcome with
      | some _ => r
      | none => { r with outcome := some .spoiled, pass := .hold }
    match r.claim with
    | .debitWait => some { spoiled with presence := .exited }
    | .armed | .printing => some { spoiled with presence := .exited, claim := .ended }
    | .ended => if r.debitedHere then some { r with presence := .exited } else none
    | .opened | .foreign | .claiming | .claimed => none

/-- The reserved amounts that are released: those of CLAIMING and CLAIMED records (07 R140). -/
def givenUp (r : Record) : Bool := r.claim == .claiming || r.claim == .claimed

/-- The keys of the records in a claim phase, in key order. -/
def keysIn (phase : ClaimPhase) (s : State) : List Pos :=
  (s.table.records.filter (fun r => r.claim == phase)).map (fun r => r.key)

/-- Release the reserved amounts of every CLAIMING and CLAIMED record. -/
def releaseAll (s : State) : State := (s.table.records.filter givenUp).foldl (fun s r => releaseFunds r s) s

/-- Handle the records by Table 2-6, without the frames of the CC: reservations released, the walk detached, the print
owner none, the records that are not kept removed (02 R37, 05 R102, 07 R150, 08 R165). -/
def giveUpRecords (s : State) : State :=
  let s := releaseAll s
  let s := s.setRater { s.rater with walk := s.rater.walk.map (fun w => { w with record := none }) }
  let s := s.setIp { s.ip with owner := none }
  let kept := s.table.records.filterMap recordAtHold
  let s := s.setTable { s.table with records := kept }
  match s.lpu.entryOwner with
  | some k => if kept.any (fun r => r.key == k) then s else s.setLpu { s.lpu with entryOwner := none }
  | none => s

/-- HOLD entry: the CC withdraws its CLAIMs and offers its RELEASEs, the records are handled, and the table offers the
reports of those it keeps (02 R37, R38, 06 R132; assumption log 10, 18). -/
def enterHold (s : State) : State :=
  let claimed := keysIn .claimed s
  let s := (keysIn .claiming s).foldl (fun s k => dropClaim k s) s
  let s := inAnyOrder (fun k s => offer [releaseEntry k] s) claimed.length claimed s
  offerReports (giveUpRecords s)

/-- A HOLD request (01 R14, 10 R194): in RUNNING the station enters HOLD with its reason. -/
def holdRequest (why : HoldReason) (s : State) : State :=
  if s.running then enterHold (s.setLoader { s.loader with mode := some .hold, reason := .hold why }) else s

end Sys2Proof.Machine
end

