-- ==== Sys2Proof/Machine/Claim.lean ====
section
/-! DEFINITION. The Claim Controller: the decision at D, the commit at K, and the frames of other stations and the
terminal that it takes (06). -/

namespace Sys2Proof.Machine

/-! ### The decision at D (06 R107, R108) -/

/-- The pass reason of a record that is not RATED at D (06 Table 6-3, order 2). -/
def unratedReason (r : Record) : PassReason :=
  if r.pass = .tailgate then .tailgate
  else if r.pass = .noWeight then .noWeight
  else if r.phase = .weighed ∨ r.phase = .rating then .lateRate
  else .rateFault

/-- The pass reason at D, or the rating part of a record that is claimed (06 R107, Table 6-3). -/
def decision (s : State) (r : Record) : Except PassReason RatingPart :=
  if !s.running then .error .hold
  else
    match r.phase, r.rating with
    | .rated, some (.rated p) =>
      if !s.eligible then .error .inhibited
      else if !s.au.canReserve p.value then .error .funds
      else if !s.hasRoom 1 then .error .queueFull
      else .ok p
    | _, _ => .error (unratedReason r)

/-- Claim a record: reserve, enqueue the CLAIM, CLAIMING (06 R107). -/
def claimRecord (r : Record) (p : RatingPart) (s : State) : State :=
  let s := reserveFunds r.key p.value s
  let s := enqueue [claimEntry r p] s
  s.updateRecord r.key (fun r => { r with claim := .claiming })

/-- The CC's decision on a record that reaches D (06 R107 to R109). -/
def decideAtD (k : Pos) (s : State) : State :=
  match s.record k with
  | none => s
  | some r =>
    if r.claim ≠ .opened then s
    else
      match decision s r with
      | .ok p => claimRecord r p s
      | .error why => endClaim k why s

/-- A record reaches D: late rating and the decision (05 R96, 06 R107). -/
def arriveAtD (k : Pos) (s : State) : State := decideAtD k (lateRating k s)

/-! ### The commit at K (06 R113) -/

/-- A CLAIMED record joins the debit queue (07 R141). -/
def commit (r : Record) (s : State) : State :=
  let amount := r.reserved.getD 0
  let s := s.updateRecord r.key (fun r => { r with claim := .debitWait })
  startDebit (s.setAu
    { s.au with
      reserved := s.au.reserved - amount
      committed := s.au.committed + amount
      queue := s.au.queue ++ [{ key := r.key, amount := amount }] })

/-- Withdraw a record's CLAIM with what follows from its leaving the queue (06 R112, 02 R33). -/
def withdrawClaim (k : Pos) (s : State) : State :=
  if claimWaits k s then offerReports (dropClaim k s) else dropClaim k s

/-- A record reaches K (06 R113). -/
def arriveAtK (k : Pos) (s : State) : State :=
  match s.record k with
  | none => s
  | some r =>
    match r.claim with
    | .claimed => commit r s
    | .claiming => withdrawClaim k (endClaim k .lateClaim (releaseFunds r s))
    | .opened | .foreign | .debitWait | .armed | .printing | .ended => s

/-! ### Claims of other stations (06 R115 to R118) -/

/-- The foreign part that a CLAIM's payload carries (06 R115, 11 Table 11-2). -/
def foreignPart (src : Node) (p : List Byte) : ForeignClaim :=
  { station := src.toNat, weight := fieldAt 3 2 p, step := fieldAt 5 1 p, image := fieldAt 6 1 p }

/-- A record with nothing but what its creation gives it (02 R24, R26). -/
def newRecord (k : Pos) : Record :=
  { key := k, presence := .present, phase := .measuring, claim := .opened, job := none, terms := none, length := none,
    thickness := 0,
    weighing := { count := 0, sum := 0, min := none, max := none, settled := false, overFlag := false, weight := none },
    waiting := false, rating := none, foreign := none, reserved := none, print := none, pieceNumber := none,
    outcome := none, pass := .none, disputeSent := false, conflict := false, lost := false, tailgate := false,
    sightPos := none, awaits := .ps, exitTarget := none, exitSeen := false, windowOpen := false, noticeLimit := none,
    beforeReset := false }

/-- The notice limit of a key (01 R8). -/
def noticeLimitOf (c : ConfigCopy) (k : Pos) : Pos := k + pos (c.offset + c.window + 1)

/-- A NOTICED record for a foreign claim (02 R26). -/
def noticedRecord (c : ConfigCopy) (k : Pos) (f : ForeignClaim) : Record :=
  { newRecord k with
    presence := .noticed, phase := .none, claim := .foreign, foreign := some f, awaits := .beyond,
    noticeLimit := some (noticeLimitOf c k) }

/-- A foreign CLAIM that matches no record (02 R26); a stale notice expires at once (01 R8, 02 R27). -/
def notice (k : Pos) (f : ForeignClaim) (s : State) : State :=
  if !s.running then s
  else if s.table.records.length < Config.tablePlaces then
    if atOrPast s.lpu.linePos (noticeLimitOf s.loader.config k) then s
    else s.insertRecord (noticedRecord s.loader.config k f)
  else offerHorizon k s

/-- Write a foreign part, which may complete the condition of the dispute test (06 R116, R126). -/
def becomeForeign (k : Pos) (f : ForeignClaim) (s : State) : State :=
  disputeTest k (s.updateRecord k (fun r => { r with claim := .foreign, foreign := some f }))

/-- The station yields a claimed piece to an upstream claimant (06 R117). The withdrawal of a waiting CLAIM lets a frame
leave the queue, and no rule orders the reports offered on it against the dispute (assumption log 9). -/
def yieldTo (r : Record) (f : ForeignClaim) (s : State) : State :=
  let left := claimWaits r.key s
  let s := releaseFunds r (dropClaim r.key s)
  if left then departing (becomeForeign r.key f) s else becomeForeign r.key f s

/-- A foreign CLAIM that matches a record (06 Table 6-4). -/
def claimMatched (r : Record) (f : ForeignClaim) (s : State) : State :=
  if r.debitedHere then s.updateRecord r.key (fun r => { r with conflict := true })
  else if r.presence = .exited then s
  else
    match r.claim with
    | .opened => becomeForeign r.key f s
    | .foreign =>
      match r.foreign with
      | some kept => if kept.station < f.station then s else becomeForeign r.key f s
      | none => becomeForeign r.key f s
    | .claiming | .claimed => if f.station < s.loader.config.station then yieldTo r f s else s
    | .ended => becomeForeign r.key f s
    | .debitWait | .armed | .printing => s

/-- A CLAIM is taken (06 R115): from another station only. -/
def takeClaim (src : Node) (p : List Byte) (s : State) : State :=
  if src = 0#4 ∨ src = s.loader.number then s
  else
    let k := pos (fieldAt 0 3 p)
    match s.matching k with
    | none => notice k (foreignPart src p) s
    | some r => claimMatched r (foreignPart src p) s

/-! ### Releases (06 R119) -/

/-- A record has reached D. -/
def Record.reachedD (r : Record) : Bool :=
  match r.awaits with
  | .ps | .pe | .d => false
  | .k | .s | .column _ | .window | .exit | .beyond => true

/-- A RELEASE of the kept claimant acts on a FOREIGN record. -/
def releaseMatched (r : Record) (s : State) : State :=
  match r.presence with
  | .noticed => removeRecord r.key s
  | .present =>
    if r.reachedD then endClaim r.key .releasedLate s
    else s.updateRecord r.key (fun r => { r with claim := .opened, foreign := none })
  | .exited => s

/-- A RELEASE is taken (06 R119). -/
def takeRelease (src : Node) (p : List Byte) (s : State) : State :=
  if src = 0#4 ∨ src = s.loader.number then s
  else
    match s.matching (pos (fieldAt 0 3 p)) with
    | none => s
    | some r =>
      if r.claim = .foreign ∧ r.foreign.map (fun f => f.station) = some src.toNat then releaseMatched r s else s

/-! ### Disputes (06 R128 to R131) -/

/-- Add a completed debit to the commit history ring (06 R128). -/
def addToRing (e : RingEntry) (ring : List RingEntry) : List RingEntry :=
  (if Config.ringEntries ≤ ring.length then ring.drop (ring.length + 1 - Config.ringEntries) else ring) ++ [e]

/-- The place in the ring of the entry that a key matches: the nearest within the window, and of several as near the one
added last (06 R129). -/
def ringMatch (w : Nat) (k : Pos) (ring : List RingEntry) : Option Nat :=
  let found := ring.zipIdx.foldl
    (fun best e =>
      if within w e.1.key k then
        match best with
        | none => some e
        | some b => if apart b.1.key k < apart e.1.key k then some b else some e
      else best)
    none
  found.map (fun e => e.2)

/-- Mark an entry of the ring. -/
def markEntry (i : Nat) (ring : List RingEntry) : List RingEntry :=
  match ring[i]? with
  | some e => ring.set i { e with marked := true }
  | none => ring

/-- A DISPUTE is taken (06 R129, R130). -/
def takeDispute (src : Node) (p : List Byte) (s : State) : State :=
  if src = 0#4 ∨ fieldAt 3 1 p ≠ s.loader.config.station then s
  else
    match ringMatch s.loader.config.window (pos (fieldAt 0 3 p)) s.cc.ring with
    | none => s
    | some i =>
      if (s.cc.ring[i]?.map (fun e => e.marked)).getD true then s
      else
        let ring := markEntry i s.cc.ring
        let s := s.setCc { s.cc with ring := ring }
        if markedCount ring = s.loader.config.disputeLimit then
          s.setInhibit { s.inhibit with scaleSuspect := true }
        else s

/-- CLEAR SCALE (06 R131, 03 R56). -/
def takeClearScale (s : State) : State :=
  let s := s.setCc { s.cc with ring := s.cc.ring.map (fun e => { e with marked := false }) }
  (s.setInhibit { s.inhibit with scaleSuspect := false, scaleFailed := false }).setWu { s.wu with zeroFaults := 0 }

/-! ### PAUSE, RESUME and ONLINE (06 R121, R123, R124) -/

/-- PAUSE raises PAUSED and RESUME clears it. -/
def takePause (paused : Bool) (s : State) : State := s.setInhibit { s.inhibit with paused := paused }

/-- The peer of an ONLINE (06 R123, 11 Table 11-2). -/
def peerOf (src : Node) (p : List Byte) : Peer :=
  { station := src.toNat, offset := fieldAt 0 2 p, d := fieldAt 2 2 p, k := fieldAt 4 2 p }

/-- The layout check of a peer passes (06 R124). -/
def layoutHolds (c : ConfigCopy) (u : Peer) : Bool :=
  if u.station < c.station then u.offset < c.offset && u.offset + u.k ≤ c.offset + c.d else c.offset < u.offset

/-- An ONLINE is taken (06 R123, R124). -/
def takeOnline (src : Node) (p : List Byte) (s : State) : State :=
  if src = 0#4 then s
  else if src = s.loader.number then s.setInhibit { s.inhibit with layout := true }
  else
    let u := peerOf src p
    let s := s.setCc { s.cc with peers := u :: s.cc.peers.filter (fun x => !(x.station == u.station)) }
    if layoutHolds s.loader.config u then s else s.setInhibit { s.inhibit with layout := true }

/-! ### The frames the CC takes -/

/-- CLAIM is delivered (06 R115). -/
def execClaim (src dst : Node) (body : FrameBody) (s : State) : Host.Outcome State Fault Refusal :=
  receive .claim src dst body (takeClaim src body.payload) s

/-- RELEASE is delivered (06 R119). -/
def execRelease (src dst : Node) (body : FrameBody) (s : State) : Host.Outcome State Fault Refusal :=
  receive .release src dst body (takeRelease src body.payload) s

/-- PAUSE is delivered (06 R121). -/
def execPause (src dst : Node) (body : FrameBody) (s : State) : Host.Outcome State Fault Refusal :=
  receive .pause src dst body (takePause true) s

/-- RESUME is delivered (06 R121). -/
def execResume (src dst : Node) (body : FrameBody) (s : State) : Host.Outcome State Fault Refusal :=
  receive .resume src dst body (takePause false) s

/-- DISPUTE is delivered (06 R129). -/
def execDispute (src dst : Node) (body : FrameBody) (s : State) : Host.Outcome State Fault Refusal :=
  receive .dispute src dst body (takeDispute src body.payload) s

/-- CLEAR SCALE is delivered (06 R131). -/
def execClearScale (src dst : Node) (body : FrameBody) (s : State) : Host.Outcome State Fault Refusal :=
  receive .clearScale src dst body takeClearScale s

/-- ONLINE is delivered (06 R123). -/
def execOnline (src dst : Node) (body : FrameBody) (s : State) : Host.Outcome State Fault Refusal :=
  receive .online src dst body (takeOnline src body.payload) s

end Sys2Proof.Machine
end

