-- ==== Sys2Proof/Machine/PieceTable.lean ====
section
/-! DEFINITION. Sightings and the settlement of a sighting by the Piece Table (01 R4, 02 R21 to R25). -/

namespace Sys2Proof.Machine

/-- The RE gives a record the job for a key: its number and its terms (05 R82). -/
def giveJob (taken : Option Job) (r : Record) : Record :=
  match taken with
  | some j => { r with job := some j.number, terms := some j.terms }
  | none => r

/-- The RE selects a job for a sighting key (05 R82). -/
def consultJobs (k : Pos) (s : State) : State := s.setRater (selectJob k s.rater)

/-- The weighing and dimension parts with which a sighted record starts, its targets counted from the sighting
position (01 R5, 03 R47, R58). -/
def sightedFrom (p : Pos) (r : Record) : Record :=
  { r with
    presence := .present, phase := .measuring, length := none, thickness := 0,
    weighing := { count := 0, sum := 0, min := none, max := none, settled := false, overFlag := false, weight := none },
    sightPos := some p, awaits := .ps, exitTarget := none, exitSeen := false, windowOpen := false,
    noticeLimit := none }

/-- A sighting within the window of a PRESENT or EXITED record (02 R23). -/
def tailgateSighting (k : Pos) (r : Record) (s : State) : State :=
  let s :=
    if r.presence = .present then
      detachWalk r.key
        (s.updateRecord r.key (fun r =>
          { r with phase := .faulted, tailgate := true, pass := .tailgate, waiting := false }))
    else s
  offerHorizon k s

/-- Settle a sighting with key `k` at line position `p`: the record named to the LPU, and the state (02 R21). -/
def settleSighting (k p : Pos) (s : State) : Option Pos × State :=
  let w := s.loader.config.window
  match matchAmong w k (s.table.records.filter (fun r => r.presence != .noticed)) with
  | some r => (none, tailgateSighting k r s)
  | none =>
    match matchAmong w k (s.table.records.filter (fun r => r.presence == .noticed)) with
    | some r =>
      let taken := jobTaken s.rater.jobs k
      (some r.key, (consultJobs k s).updateRecord r.key (fun r => giveJob taken (sightedFrom p r)))
    | none =>
      if s.table.records.length < Config.tablePlaces then
        let taken := jobTaken s.rater.jobs k
        (some k, (consultJobs k s).insertRecord (giveJob taken (sightedFrom p (newRecord k))))
      else (none, offerHorizon k s)

/-- The piece key of a line position (01 R4). -/
def keyAt (c : ConfigCopy) (p : Pos) : Pos := p - pos c.offset

/-- The entry cell blocks (01 R4, R12). During the start-up read the part takes no block event, and the level of the
pin is read at its end. -/
def execSighting (s : State) : Host.Outcome State Fault Refusal :=
  let s0 := s.setPins { s.pins with cellEn := true }
  if !s.started || s.lpu.entryBlocked then .next s0
  else
    let s1 := s0.setLpu { s0.lpu with entryBlocked := true, entryRun := 0, entryOwner := none }
    if s1.running && s1.lpu.synced then
      let p := s1.lpu.linePos
      let (owner, s2) := settleSighting (keyAt s1.loader.config p) p s1
      .next (s2.setLpu { s2.lpu with entryOwner := owner })
    else .next s1

end Sys2Proof.Machine
end

