-- ==== Sys2Proof/Machine/Line.lean ====
section
/-! DEFINITION. The belt: encoder steps with all that they reach, cells, exit, speed (01). -/

namespace Sys2Proof.Machine

/-! ### Targets (01 R5, R6, Table 1-1) -/

/-- The target after a target, for an indicium of `w` columns. -/
def Target.after (w : Nat) : Target → Target
  | .ps => .pe
  | .pe => .d
  | .d => .k
  | .k => .s
  | .s => if 0 < w then .column 0 else .window
  | .column c => if c + 1 < w then .column (c + 1) else .window
  | .window => .exit
  | .exit => .beyond
  | .beyond => .beyond

/-- The travel of a landmark target; the exit target depends on the length (01 R15). -/
def Target.travel (c : ConfigCopy) : Target → Option Nat
  | .ps => some c.ps
  | .pe => some c.pe
  | .d => some c.d
  | .k => some c.k
  | .s => some c.s
  | .column i => some (c.s + i * c.pitch)
  | .window => some c.x
  | .exit | .beyond => none

/-- The line position of the target a record awaits, when it has been set. -/
def awaitedAt (c : ConfigCopy) (r : Record) : Option Pos :=
  match r.awaits with
  | .exit => r.exitTarget
  | t =>
    match r.sightPos, t.travel c with
    | some p, some m => some (p + pos m)
    | _, _ => none

/-- The target that a record awaits, or its notice limit, is reached at a line position; an EXITED record reaches its
targets all the same (01 R7). -/
def targetDue (c : ConfigCopy) (linePos : Pos) (r : Record) : Bool :=
  match r.presence with
  | .noticed =>
    match r.noticeLimit with
    | some t => atOrPast linePos t
    | none => false
  | .present | .exited =>
    match awaitedAt c r with
    | some t => atOrPast linePos t
    | none => false

/-! ### Arrivals (01 R7, Table 1-2) -/

/-- The exit window opens (01 R16). -/
def openWindow (exitBlocked : Bool) (r : Record) : Record :=
  { r with windowOpen := true, exitSeen := r.exitSeen || exitBlocked }

/-- LOST is settled at the exit target, and the window closes (01 R16). -/
def settleLost (r : Record) : Record := { r with lost := r.lost || !r.exitSeen, windowOpen := false }

/-- An arrival is handed to the block that acts on it. -/
def handArrival (k : Pos) (t : Target) (s : State) : State :=
  match t with
  | .ps => s
  | .pe => endOfWeighing k s
  | .d => arriveAtD k s
  | .k => arriveAtK k s
  | .s => arriveAtS k s
  | .column c => arriveAtColumn k c s
  | .window => s.updateRecord k (openWindow s.lpu.exitBlocked)
  | .exit => exitArrival k (s.updateRecord k settleLost)
  | .beyond => s

/-- A record reaches the target it awaits: the next one is awaited, and the arrival is handed in RUNNING to a record
created since the latest LINE RESET; an EXITED record is handed none (01 R6, R7; assumption log 23). A NOTICED record
that reaches its notice limit is removed (02 R27). -/
def reachTarget (k : Pos) (s : State) : State :=
  match s.record k with
  | none => s
  | some r =>
    let handed := s.running && !r.beforeReset
    match r.presence with
    | .noticed =>
      if handed then removeRecord k s else s.updateRecord k (fun r => { r with noticeLimit := none })
    | .present =>
      let s := s.updateRecord k (fun r => { r with awaits := r.awaits.after s.loader.config.width })
      if handed then handArrival k r.awaits s else s
    | .exited => s.updateRecord k (fun r => { r with awaits := r.awaits.after s.loader.config.width })

/-! ### What a forward step brings about -/

/-- Something that is due on a forward step. -/
inductive StepEvent where
  | jam
  | clearance
  | target (k : Pos)
  deriving DecidableEq, Repr

/-- What is due at the line position: a JAM request not yet made, the horizon clearance, the awaited targets. -/
def dueEvents (jam : Bool) (s : State) : List StepEvent :=
  (if jam then [.jam] else []) ++
    (match s.lpu.clearance with
     | some c => if atOrPast s.lpu.linePos c then [.clearance] else []
     | none => []) ++
    (s.table.records.filter (targetDue s.loader.config s.lpu.linePos)).map (fun r => .target r.key)

/-- One due event takes place. -/
def doEvent (e : StepEvent) (s : State) : State :=
  match e with
  | .jam => holdRequest .jam s
  | .clearance => clearHorizon s
  | .target k => reachTarget k s

/-- All that is due takes place. The targets of one record are reached in the order of Table 1-1; different records, the
clearance and a JAM request come in a free order, since the LPU gives them none (01 R6; assumption log 8). -/
def stepEvents : Nat → Bool → State → State
  | 0, _, s => s
  | n + 1, jam, s =>
    match dueEvents jam s with
    | [] => s
    | e :: es =>
      let (i, s') := drawIndex (es.length + 1) s
      let chosen := ((e :: es)[i]?).getD e
      stepEvents n (jam && chosen != .jam) (doEvent chosen s')

/-- Room for every target of every record to be reached on one step. -/
def stepFuel (c : ConfigCopy) : Nat := Config.tablePlaces * (c.width + 8) + 2

/-- A blocked-run counter after a forward step (01 R12). -/
def runForward (blocked : Bool) (run : Nat) : Nat := if blocked then min (run + 1) Config.countCap else run

/-- A blocked-run counter after a backward step (01 R12). -/
def runBackward (blocked : Bool) (run : Nat) : Nat := if blocked then run - 1 else run

/-- The LPU's counters after a forward step (01 R1, R9, R11, R12). -/
def lpuForward (l : Lpu) : Lpu :=
  { l with
    linePos := l.linePos + 1#24
    tally := min (l.tally + 1) Config.countCap
    reversal := 0
    entryRun := runForward l.entryBlocked l.entryRun
    exitRun := runForward l.exitBlocked l.exitRun }

/-- The LPU's counters after a backward step (01 R1, R9, R11, R12). -/
def lpuBackward (l : Lpu) : Lpu :=
  { l with
    linePos := l.linePos - 1#24
    tally := max (l.tally - 1) (-Config.countCap)
    reversal := min (l.reversal + 1) Config.countCap
    entryRun := runBackward l.entryBlocked l.entryRun
    exitRun := runBackward l.exitBlocked l.exitRun }

/-- A blocked cell has run past the jam length, or to 4,095 (01 R13). -/
def cellJammed (jamLength : Nat) (blocked : Bool) (run : Nat) : Bool :=
  blocked && (jamLength < run || Config.countCap ≤ run)

/-- One of the cells is jammed (01 R13). -/
def jammed (s : State) : Bool :=
  cellJammed s.loader.config.jamLength s.lpu.entryBlocked s.lpu.entryRun ||
    cellJammed s.loader.config.jamLength s.lpu.exitBlocked s.lpu.exitRun

/-- The zero guard is discarded once the line position has passed it (03 R53). -/
def discardGuard (s : State) : State :=
  match s.wu.guardPos with
  | some g => if precedes g s.lpu.linePos then s.setWu { s.wu with guardPos := none } else s
  | none => s

/-- The counters, the key order and the guard after a forward step, before anything is reached. -/
def advanceBelt (phRdy phRdyAgain : Bool) (s : State) : State :=
  let s := s.setPins { s.pins with phRdy := phRdy, phRdyAgain := phRdyAgain }
  let s := s.setIp { s.ip with fired := [] }
  discardGuard (reorder (s.setLpu (lpuForward s.lpu)))

/-- A forward encoder step (01 R1), taken whole with the arrivals it brings (95). A sample that comes together with it and
is taken before a Pe arrival of this step stands before the step in the queue: `execSampleArrival` takes it at Pe (03
R51; assumption log 36). -/
def execForwardStep (phRdy phRdyAgain : Bool) (s : State) : Host.Outcome State Fault Refusal :=
  if !s.loader.powered then .next s
  else
    let s := advanceBelt phRdy phRdyAgain s
    .next (portNext (stepEvents (stepFuel s.loader.config) (jammed s) s))

/-- A backward encoder step (01 R1, R11): a REVERSED request while the accumulator exceeds the tolerance. -/
def execBackwardStep (s : State) : Host.Outcome State Fault Refusal :=
  if !s.loader.powered then .next s
  else
    let s := s.setIp { s.ip with fired := [] }
    let s := reorder (s.setLpu (lpuBackward s.lpu))
    if s.loader.config.tolerance < s.lpu.reversal then .next (holdRequest .reversed s) else .next s

/-! ### Cells (01 R12, R15, R16) -/

/-- The length of a piece is handed to its record, whose exit target is set (01 R15). -/
def giveLength (c : ConfigCopy) (l : Nat) (r : Record) : Record :=
  { r with length := some l, exitTarget := r.sightPos.map (fun p => p + pos (l + c.x)) }

/-- The zero guard after an unblock without an entry owner (03 R53). -/
def guardAfter (held : Option Pos) (g : Pos) : Option Pos :=
  match held with
  | none => some g
  | some h => if precedes h g then some g else some h

/-- The targets of one record that are reached at the moment one of them is set (01 R6). -/
def reachDue : Nat → Pos → State → State
  | 0, _, s => s
  | n + 1, k, s =>
    match s.record k with
    | some r => if targetDue s.loader.config s.lpu.linePos r then reachDue n k (reachTarget k s) else s
    | none => s

/-- The entry cell unblocks (01 R15, 03 R53). -/
def execEntryUnblock (s : State) : Host.Outcome State Fault Refusal :=
  let s0 := s.setPins { s.pins with cellEn := false }
  if !s.started || !s.lpu.entryBlocked then .next s0
  else
    let s1 := s0.setLpu { s0.lpu with entryBlocked := false, entryOwner := none }
    match s.lpu.entryOwner with
    | some k =>
      let s2 := s1.updateRecord k (giveLength s1.loader.config s1.lpu.entryRun)
      let due : Bool :=
        match s2.record k with
        | some r => r.awaits == .exit
        | none => false
      if due then .next (portNext (reachDue 1 k s2)) else .next s2
    | none =>
      if s1.running then
        let g := s1.lpu.linePos + pos (s1.loader.config.pe + 1)
        .next (s1.setWu { s1.wu with guardPos := guardAfter s1.wu.guardPos g })
      else .next s1

/-- The exit cell blocks (01 R12, R16). -/
def execExitCellBlock (s : State) : Host.Outcome State Fault Refusal :=
  let s0 := s.setPins { s.pins with cellEx := true }
  if !s.started || s.lpu.exitBlocked then .next s0
  else
    let s1 := s0.setLpu { s0.lpu with exitBlocked := true, exitRun := 0 }
    .next (s1.setTable
      { s1.table with
        records := s1.table.records.map (fun r => if r.windowOpen then { r with exitSeen := true } else r) })

/-- The exit cell unblocks (01 R12): its counter keeps its value. -/
def execExitCellUnblock (s : State) : Host.Outcome State Fault Refusal :=
  let s0 := s.setPins { s.pins with cellEx := false }
  if !s.started then .next s0 else .next (s0.setLpu { s0.lpu with exitBlocked := false })

/-! ### Speed (01 R9, R10) -/

/-- OVERSPEED as decided from a speed sample. -/
def overspeedAfter (c : ConfigCopy) (v : Int) (held : Bool) : Bool :=
  if (c.vmax : Int) < v then true else if v ≤ (c.vmax : Int) - c.vhyst then false else held

/-- The speed period expires (01 R9, R10). -/
def execSpeedPeriodExpiry (s : State) : Host.Outcome State Fault Refusal :=
  if !s.loader.powered then .next s
  else
    let s := s.setLpu { s.lpu with speed := s.lpu.tally, tally := 0 }
    if s.inService then
      .next (s.setInhibit
        { s.inhibit with overspeed := overspeedAfter s.loader.config s.lpu.speed s.inhibit.overspeed })
    else .next s

end Sys2Proof.Machine
end

