-- ==== Sys2Proof/Machine/Accounting.lean ====
section
/-! DEFINITION. The Accounting Unit's completions and frames (07). -/

namespace Sys2Proof.Machine

/-- What a completed debit writes into its record (07 R143, items 3 and 4). -/
def debitedRecord (n : Nat) (r : Record) : Record :=
  { r with
    pieceNumber := some n
    claim := if r.outcome.isSome then .ended else .armed }

/-- The commit history entry of a record (06 R128). -/
def ringEntryOf (r : Record) : RingEntry :=
  { key := r.key, step := (ratingOf r).step, weight := r.weighing.weight.getD 0, marked := false }

/-- The registers and books at the completion of a debit (07 R143, items 1 and 2). -/
def bookDebit (item : DebitItem) (set : NvSet) (au : Account) : Account :=
  let au := completeWrite set au
  { au with committed := au.committed - item.amount, outstanding := au.outstanding - 1 }

/-- EXHAUSTED is raised once the piece count stands at its limit (07 R147). -/
def raiseExhausted (s : State) : State :=
  if s.au.registers.count = Config.pieceCap then s.setInhibit { s.inhibit with exhausted := true } else s

/-- The report of a record that is EXITED when its debit completes is offered at once (02 R33). -/
def offerReportOf (k : Pos) (s : State) : State :=
  match s.record k with
  | some r => if r.presence = .exited ∧ r.reportReady ∧ s.hasRoom 2 then sendReport r s else s
  | none => s

/-- What a completed debit brings its record and the commit history ring (07 R143, items 3 to 5). -/
def settleDebit (k : Pos) (s : State) : State :=
  match s.record k with
  | none => s
  | some r =>
    let s := s.updateRecord k (debitedRecord s.au.registers.count)
    s.setCc { s.cc with ring := addToRing (ringEntryOf r) s.cc.ring }

/-- A debit write completes (07 R143), in the order of its items. -/
def execDebitWriteComplete (s : State) : Host.Outcome State Fault Refusal :=
  match s.loader.powered, s.au.write with
  | true, some (.debit item set) =>
    let s := s.setAu (bookDebit item set s.au)
    .next (startDebit (offerReportOf item.key (raiseExhausted (settleDebit item.key s))))
  | _, _ => .next s

/-- A credit write completes (07 R146). -/
def execCreditWriteComplete (s : State) : Host.Outcome State Fault Refusal :=
  match s.loader.powered, s.au.write with
  | true, some (.credit set) =>
    let s := s.setAu (completeWrite set s.au)
    .next (startDebit (offer (accountReport s.au) s))
  | _, _ => .next s

/-- CREDIT (07 R145). -/
def takeCredit (p : List Byte) (s : State) : State :=
  let x := fieldAt 0 4 p
  let number := fieldAt 4 2 p
  let r := s.au.registers
  if s.au.faulted then refuse .credit .state 0 s
  else if s.au.write.isSome ∨ !s.au.queue.isEmpty then refuse .credit .busy 0 s
  else if number ≠ r.nextCredit then refuse .credit .sequence r.nextCredit s
  else if x = 0 ∨ s.loader.config.creditLimit < x ∨ 99999999 < r.descending + x ∨ 999999999999 < r.control + x then
    refuse .credit .range 0 s
  else s.setAu { s.au with write := some (.credit (creditSet s.au x)) }

/-- CREDIT is delivered (07 R145). -/
def execCredit (src dst : Node) (body : FrameBody) (s : State) : Host.Outcome State Fault Refusal :=
  receive .credit src dst body (takeCredit body.payload) s

/-- ACCOUNT QUERY is delivered (07 R148). -/
def execAccountQuery (src dst : Node) (body : FrameBody) (s : State) : Host.Outcome State Fault Refusal :=
  receive .accountQuery src dst body (fun s => offer (accountReport s.au) s) s

end Sys2Proof.Machine
end

