-- ==== Sys2Proof/Machine/LinkController.lean ====
section
/-! DEFINITION. The Link Controller's attempts (09 R180 to R183). -/

namespace Sys2Proof.Machine

/-- The frame on the medium, if an attempt is in progress. -/
def State.sending (s : State) : Option TxEntry := s.lc.queue.find? (fun e => e.onMedium)

/-- The attempt has ended; the frame keeps its place. -/
def endAttempt (s : State) : State :=
  s.setLc { s.lc with attempt := none, queue := s.lc.queue.map (fun e => { e with onMedium := false }) }

/-- The frame on the medium leaves the queue, and the attempt has ended. -/
def takeOff (s : State) : State :=
  s.setLc { s.lc with attempt := none, queue := s.lc.queue.filter (fun e => !e.onMedium) }

/-- Mark the head of the queue as the frame on the medium. -/
def sendHead : List TxEntry → List TxEntry
  | [] => []
  | e :: rest => { e with onMedium := true } :: rest

/-- The LC starts an attempt (09 R180). The manual's conditions that the part can see: the start-up read has ended, the
first idle has been seen, no attempt is in progress and the queue is not empty. -/
def execAttemptStart (s : State) : Host.Outcome State Fault Refusal :=
  if !(s.started && s.lc.idleSeen) || s.sending.isSome then .next s
  else
    match s.lc.queue with
    | [] => .next s
    | e :: _ =>
      .next (s.setLc
        { s.lc with
          queue := sendHead s.lc.queue, attempt := some (frameOf s.loader.number e), receiver := false,
          drove := .none })

/-- The owner of a CLAIM that has left the queue by abandonment (06 R111). -/
def abandonClaim (k : Pos) (s : State) : State :=
  match s.record k with
  | none => s
  | some r => if r.claim = .claiming then endClaim k .linkAbandoned (releaseFunds r s) else s

/-- The consecutive-abandon count rises, and a count of 3 makes a HOLD request (09 R182). -/
def countAbandon (s : State) : State :=
  let n := min (s.lc.abandons + 1) 3
  let s := s.setLc { s.lc with abandons := n }
  if n = 3 then holdRequest .link s else s

/-- The abandonment of the frame on the medium (09 R182); it is a frame leaving the queue. -/
def abandon (e : TxEntry) (s : State) : State :=
  let s := takeOff s
  let s :=
    match e.kind, e.record with
    | .claim, some k => abandonClaim k s
    | _, _ => s
  departing countAbandon s

/-- The own attempt has failed (09 R181 to R183). -/
def failAttempt (e : TxEntry) (s : State) : State :=
  if e.withdrawn then offerReports (takeOff s)
  else
    let n := min (e.failures + 1) 8
    if n = 8 ∧ e.kind ≠ .pieceReport then abandon e s
    else
      let s := s.setLc
        { s.lc with queue := s.lc.queue.map (fun x => if x.onMedium then { x with failures := n } else x) }
      let s := endAttempt s
      if n = 8 then holdRequest .link s else s

/-- The delivery of the own frame (09 R181, 06 R110, R112). -/
def deliver (e : TxEntry) (s : State) : State :=
  let s := takeOff s
  let s := s.setLc { s.lc with abandons := 0 }
  match e.kind, e.record with
  | .claim, some k =>
    if e.withdrawn then departing (fun s => offer [releaseEntry k] s) s
    else offerReports (s.updateRecord k (fun r => if r.claim = .claiming then { r with claim := .claimed } else r))
  | _, _ => offerReports s

/-- The own frame is delivered (09 R181). -/
def execFrameDelivered (s : State) : Host.Outcome State Fault Refusal :=
  match s.loader.powered, s.sending with
  | true, some e => .next (deliver e s)
  | _, _ => .next s

/-- The own frame fails at its accept or reject slot (09 R174, R181). -/
def execAttemptFailed (s : State) : Host.Outcome State Fault Refusal :=
  match s.loader.powered, s.sending with
  | true, some e => .next (failAttempt e s)
  | _, _ => .next s

/-- The own read-back fails (09 R175): the attempt has failed, and the station is a receiver of the frame that goes
on. -/
def execReadBackFailure (s : State) : Host.Outcome State Fault Refusal :=
  match s.loader.powered, s.sending with
  | true, some e => .next (failAttempt e (s.setLc { s.lc with receiver := true }))
  | _, _ => .next s

/-- The own frame loses arbitration (09 R172, R181): it stays with its count, unless it has been withdrawn. -/
def execLostArbitration (s : State) : Host.Outcome State Fault Refusal :=
  match s.loader.powered, s.sending with
  | true, some e =>
    let s := s.setLc { s.lc with receiver := true }
    if e.withdrawn then .next (offerReports (takeOff s)) else .next (endAttempt s)
  | _, _ => .next s

/-- The LC sees its first idle after power-on (09 R172, R188). -/
def execFirstIdleSeen (s : State) : Host.Outcome State Fault Refusal :=
  if s.loader.powered then .next (s.setLc { s.lc with idleSeen := true }) else .next s

end Sys2Proof.Machine
end

