-- ==== Sys2Proof/Machine/StartUp.lean ====
section
/-! DEFINITION. Power, the start-up read, LINE RESET and STATUS QUERY (10). -/

namespace Sys2Proof.Machine

/-! ### Power (07 R136, 10 R189) -/

/-- A nonvolatile write in flight at a power loss completes, or leaves its bank without a valid check (07 R136). -/
def cutWrite (holdUp : Bool) (au : Account) : Account :=
  match au.write with
  | none => au
  | some w =>
    let set :=
      match w with
      | .debit _ set => set
      | .credit set => set
    { au.setBank au.current.other (if holdUp then some set else none) with write := none }

/-- A status write that a power loss cuts leaves its record as it was, written, or failing its own check: a free choice
(assumption log 14). -/
def cutStatusWrite (s : State) : State :=
  match s.tariff.port with
  | some (.statusWrite id record _) =>
    match drawIndex 3 s with
    | (0, s') => s'
    | (1, s') => s'.setTariff (s'.tariff.setRecord id (some record))
    | (_, s') => s'.setTariff (s'.tariff.setRecord id none)
  | _ => s

/-- Power goes: the nonvolatile write is settled, the port's operation is cut, and the part has no mode. -/
def powerDown (holdUp : Bool) (s : State) : State :=
  let s := cutStatusWrite (s.setAu (cutWrite holdUp s.au))
  (s.setTariff { s.tariff with port := none }).setLoader { s.loader with powered := false, mode := none }

/-- VDD fails or PORN is pulled low (07 R136). -/
def execPowerLoss (holdUp : Bool) (s : State) : Host.Outcome State Fault Refusal :=
  if s.loader.powered then .next (powerDown holdUp s) else .next s

/-- The power-on state of every block, with what outlives power: the banks, the tariff memory, the levels of the cell
pins (01 R17, 02 R41, 04 R79, 05 R104, 06 R134, 07 R151, 08 R168, 09 R188, 10 R189). -/
def powerUp (s : State) : State :=
  { State.reset with
    tariff :=
      { State.reset.tariff with
        recordA := s.tariff.recordA, recordB := s.tariff.recordB, areaA := s.tariff.areaA, areaB := s.tariff.areaB }
    au := { State.reset.au with bank0 := s.au.bank0, bank1 := s.au.bank1 }
    pins := s.pins
    free := s.free
    pending := s.pending }

/-- PORN rises (10 R189). On a powered part PORN has been pulled low and let rise by the board, and a write in flight
has run to its completion (assumption log 15). -/
def execPowerOn (s : State) : Host.Outcome State Fault Refusal :=
  .next (powerUp (if s.loader.powered then powerDown true s else s))

/-! ### The start-up read (10 R189 to R191) -/

/-- The own number on the link that a fault leaves (10 R192). -/
def numberAfter (fault : Option ConfigFault) (station : Nat) : Node :=
  match fault with
  | some .read | some .length | some .crc | some .station => 15#4
  | some .range | some .geometry | some .order | none => BitVec.ofNat 4 station

/-- The mode and its reason at the end of the start-up read (10 R191). -/
def modeAfterRead (l : Loader) : Loader :=
  match l.fault with
  | none => { l with mode := some .unsynced, reason := .none }
  | some f => { l with mode := some .offline, reason := .config f }

/-- The end of the start-up read, once all three reads have completed (10 R191): the mode, the cells as their pins stand
(01 R12), and the configuration values that blocks keep for themselves (03 R60). -/
def endStartUp (s : State) : State :=
  if s.loader.configDone && s.loader.slotsDone && s.loader.banksDone then
    let s := s.setLoader (modeAfterRead s.loader)
    let s := s.setLpu
      { s.lpu with entryBlocked := s.pins.cellEn, exitBlocked := s.pins.cellEx, entryRun := 0, exitRun := 0 }
    if s.loader.fault.isNone then s.setWu { s.wu with zero := s.loader.config.initialZero } else s
  else s

/-- The part is in the start-up read. -/
def State.inStartUp (s : State) : Bool := s.loader.powered && s.loader.mode.isNone

/-- The Loader takes what the configuration read has found (10 R189, R190). -/
def loadConfig (bytes : Option (List Byte)) (l : Loader) : Loader :=
  let fault := configFaultOf bytes
  let b := bytes.getD []
  { l with
    configDone := true
    fault := fault
    config := if fault.isNone then parseConfig (b.take (fieldAt 0 2 b)) else l.config
    number := numberAfter fault (fieldAt 2 1 b) }

/-- The configuration read completes (10 R189, R190). -/
def execConfigurationReadComplete (bytes : Option (List Byte)) (s : State) : Host.Outcome State Fault Refusal :=
  if s.inStartUp && !s.loader.configDone then .next (endStartUp (s.setLoader (loadConfig bytes s.loader)))
  else .next s

/-- The descriptor rebuilt from a status record (04 R79). -/
def rebuiltSlot (readable : Bool) (record : Option SlotRecord) : Slot :=
  match readable, record with
  | true, some r =>
    match r.state with
    | .empty | .loading => Slot.blank
    | .invalid | .ready | .active | .superseded =>
      { state := r.state, image := r.image, ordinal := r.ordinal, length := r.length, accepted := 0,
        invalid := r.invalid }
  | _, _ => Slot.blank

/-- Two ACTIVE records rebuild both slots as READY (04 R79). -/
def settleActive (a b : Slot) : Slot × Slot :=
  if a.state = .active ∧ b.state = .active then ({ a with state := .ready }, { b with state := .ready }) else (a, b)

/-- The rebuild of the slot descriptors completes (04 R79). -/
def execStatusRecordRebuildComplete (readA readB : Bool) (s : State) : Host.Outcome State Fault Refusal :=
  if s.inStartUp && !s.loader.slotsDone then
    let (a, b) := settleActive (rebuiltSlot readA s.tariff.recordA) (rebuiltSlot readB s.tariff.recordB)
    let s := s.setTariff { s.tariff with slotA := a, slotB := b }
    let s := s.setInhibit { s.inhibit with noTariff := s.tariff.active.isNone }
    .next (endStartUp (s.setLoader { s.loader with slotsDone := true }))
  else .next s

/-- The current bank chosen from the banks found good; `none` when neither is (07 R137). -/
def chooseBank : Option NvSet → Option NvSet → Option BankId
  | none, none => none
  | some _, none => some .zero
  | none, some _ => some .one
  | some a, some b => if b.generation = (a.generation + 1) % 256 then some .one else some .zero

/-- The AU's books after the bank read (07 R137, R151). -/
def afterBankRead (match0 match1 : Bool) (au : Account) : Account :=
  match chooseBank (if match0 then au.bank0 else none) (if match1 then au.bank1 else none) with
  | some id => { au with current := id, faulted := false }
  | none => { au with faulted := true }

/-- The read of the two banks completes (07 R137, R147, R151). -/
def execBankReadComplete (match0 match1 : Bool) (s : State) : Host.Outcome State Fault Refusal :=
  if s.inStartUp && !s.loader.banksDone then
    let s := s.setAu (afterBankRead match0 match1 s.au)
    let s := s.setInhibit
      { s.inhibit with exhausted := s.au.faulted || s.au.registers.count == Config.pieceCap }
    .next (endStartUp (s.setLoader { s.loader with banksDone := true }))
  else .next s

/-! ### LINE RESET (10 R195 and the rules it names) -/

/-- The ONLINE of the own station (06 R122, 09 R171, 11 Table 11-2). -/
def onlineEntry (c : ConfigCopy) : TxEntry :=
  newEntry .online 15#4 (beBytes 2 c.offset ++ beBytes 2 c.d ++ beBytes 2 c.k)

/-- The queue that a LINE RESET leaves: the PIECE REPORT frames with a count of 0 (09 R187). -/
def clearedQueue (q : List TxEntry) : List TxEntry :=
  (q.filter (fun e => e.kind == .pieceReport)).map (fun e => { e with failures := 0, onMedium := false })

/-- The LC clears its queue and admits the own ONLINE (09 R187). -/
def resetLink (s : State) : State :=
  offer [onlineEntry s.loader.config]
    (s.setLc { s.lc with queue := clearedQueue s.lc.queue, attempt := none, abandons := 0 })

/-- The LPU at a LINE RESET (01 R3). -/
def resetLpu (l : Lpu) : Lpu :=
  { l with linePos := 0#24, synced := true, reversal := 0, entryOwner := none, clearance := none }

/-- The table at a LINE RESET: only EXITED records remain, from before the epoch boundary, in the key order of line
position 0; the blind horizon is discarded (02 R40, 01 R3). -/
def resetTable (t : Table) : Table :=
  { records :=
      sortByKey 0#24 ((t.records.filter (fun r => r.presence == .exited)).map (fun r => { r with beforeReset := true }))
    horizon := none }

/-- The RE at a LINE RESET (05 R103). -/
def resetRater (r : Rater) : Rater :=
  { keepOneJob r with walk := r.walk.map (fun w => { w with record := none, noFill := true }) }

/-- LINE RESET in UNSYNCED, RUNNING or HOLD (10 R195): each block acts by its own rule for the mode the station held,
and the reports are offered after the ONLINE has been admitted (09 R187). -/
def takeLineReset (s : State) : State :=
  let departed := s.lc.queue.any (fun e => e.kind != .pieceReport)
  let wasRunning := s.running
  let s := resetLink s
  let s := if wasRunning then giveUpRecords s else s
  let s := s.setLpu (resetLpu s.lpu)
  let s := s.setTable (resetTable s.table)
  let s := s.setWu { s.wu with guardPos := some (pos (s.loader.config.pe + 1)) }
  let s := s.setRater (resetRater s.rater)
  let s := s.setCc { s.cc with peers := [] }
  let s := s.setInhibit { s.inhibit with layout := false, paused := false, blind := false }
  let s := s.setLoader { s.loader with mode := some .running, reason := .none }
  if wasRunning || departed then offerReports s else s

/-- LINE RESET is delivered (10 R195). -/
def execLineReset (src dst : Node) (body : FrameBody) (s : State) : Host.Outcome State Fault Refusal :=
  receive .lineReset src dst body takeLineReset s

/-- STATUS QUERY is delivered (09 R185). -/
def execStatusQuery (src dst : Node) (body : FrameBody) (s : State) : Host.Outcome State Fault Refusal :=
  receive .statusQuery src dst body (fun s => offer (statusReport s) s) s

end Sys2Proof.Machine
end

