-- ==== Sys2Proof/Machine/Dispatch.lean ====
section
/-! DEFINITION. One arm for each command: one direct call of its meaning. -/

namespace Sys2Proof.Machine

def exec (i : Instr) (s : State) : Host.Outcome State Fault Refusal :=
  match i with
  | .powerOn => Sys2Proof.Machine.execPowerOn s
  | .configurationReadComplete bytes => Sys2Proof.Machine.execConfigurationReadComplete bytes s
  | .statusRecordRebuildComplete readA readB => Sys2Proof.Machine.execStatusRecordRebuildComplete readA readB s
  | .bankReadComplete match0 match1 => Sys2Proof.Machine.execBankReadComplete match0 match1 s
  | .forwardStep phRdy phRdyAgain => Sys2Proof.Machine.execForwardStep phRdy phRdyAgain s
  | .backwardStep => Sys2Proof.Machine.execBackwardStep s
  | .sighting => Sys2Proof.Machine.execSighting s
  | .entryUnblock => Sys2Proof.Machine.execEntryUnblock s
  | .exitCellBlock => Sys2Proof.Machine.execExitCellBlock s
  | .exitCellUnblock => Sys2Proof.Machine.execExitCellUnblock s
  | .speedPeriodExpiry => Sys2Proof.Machine.execSpeedPeriodExpiry s
  | .sampleArrival raw => Sys2Proof.Machine.execSampleArrival raw s
  | .gaugeArrival reading => Sys2Proof.Machine.execGaugeArrival reading s
  | .headerReadComplete error => Sys2Proof.Machine.execHeaderReadComplete error s
  | .directoryEntryReadComplete error => Sys2Proof.Machine.execDirectoryEntryReadComplete error s
  | .stepTableReadComplete error => Sys2Proof.Machine.execStepTableReadComplete error s
  | .statusWriteComplete wrong => Sys2Proof.Machine.execStatusWriteComplete wrong s
  | .eraseComplete wrong => Sys2Proof.Machine.execEraseComplete wrong s
  | .programComplete wrong => Sys2Proof.Machine.execProgramComplete wrong s
  | .checkReadComplete count error => Sys2Proof.Machine.execCheckReadComplete count error s
  | .debitWriteComplete => Sys2Proof.Machine.execDebitWriteComplete s
  | .creditWriteComplete => Sys2Proof.Machine.execCreditWriteComplete s
  | .attemptStart => Sys2Proof.Machine.execAttemptStart s
  | .lostArbitration => Sys2Proof.Machine.execLostArbitration s
  | .readBackFailure => Sys2Proof.Machine.execReadBackFailure s
  | .frameDelivered => Sys2Proof.Machine.execFrameDelivered s
  | .attemptFailed => Sys2Proof.Machine.execAttemptFailed s
  | .lineReset src dst p => Sys2Proof.Machine.execLineReset src dst p s
  | .claim src dst p => Sys2Proof.Machine.execClaim src dst p s
  | .release src dst p => Sys2Proof.Machine.execRelease src dst p s
  | .pause src dst p => Sys2Proof.Machine.execPause src dst p s
  | .resume src dst p => Sys2Proof.Machine.execResume src dst p s
  | .job src dst p => Sys2Proof.Machine.execJob src dst p s
  | .date src dst p => Sys2Proof.Machine.execDate src dst p s
  | .dispute src dst p => Sys2Proof.Machine.execDispute src dst p s
  | .credit src dst p => Sys2Proof.Machine.execCredit src dst p s
  | .accountQuery src dst p => Sys2Proof.Machine.execAccountQuery src dst p s
  | .clearScale src dst p => Sys2Proof.Machine.execClearScale src dst p s
  | .statusQuery src dst p => Sys2Proof.Machine.execStatusQuery src dst p s
  | .online src dst p => Sys2Proof.Machine.execOnline src dst p s
  | .tariffOpen src dst p => Sys2Proof.Machine.execTariffOpen src dst p s
  | .tariffData src dst p => Sys2Proof.Machine.execTariffData src dst p s
  | .tariffClose src dst p => Sys2Proof.Machine.execTariffClose src dst p s
  | .powerLoss holdUp => Sys2Proof.Machine.execPowerLoss holdUp s
  | .firstIdleSeen => Sys2Proof.Machine.execFirstIdleSeen s

end Sys2Proof.Machine
end

