-- ==== Sys2Proof/WellFormed.lean ====
section
/-! DEFINITION. Which commands the part's surroundings can send. exec is total and answers every command; the others
are events that no surroundings give. -/

namespace Sys2Proof

/-- The length field of a frame counts at most 15 payload bytes (09 Table 9-1). -/
def payloadField (payload : List Byte) : Bool := payload.length ≤ 15

/-- The declared length at the head of a configuration record (11 Table 11-4), 0 when it is not there. -/
def declaredLength (bytes : List Byte) : Nat :=
  match bytes with
  | hi :: lo :: _ => hi.toNat * 256 + lo.toNat
  | _ => 0

/-- A completed read of the configuration record holds its length field and, unless that length ends the read, the
bytes up to it (10 R189, 11 R199). -/
def configurationFits (bytes : List Byte) : Bool :=
  2 ≤ bytes.length &&
    (declaredLength bytes < 360 || 6072 < declaredLength bytes || declaredLength bytes ≤ bytes.length)

/-- Bytes left wrong lie in a slot area (04 SLOTS AND DESCRIPTORS). -/
def cellsFit (cells : List Host.Cell) : Bool := cells.all (fun c => c.1 < Config.areaBytes)

/-- The commands that the part's surroundings can send. -/
def Instr.wellFormed : Instr → Bool
  | .configurationReadComplete (some bytes) => configurationFits bytes
  | .eraseComplete wrong => cellsFit wrong
  | .programComplete wrong => cellsFit wrong
  | .checkReadComplete count _ => 1 ≤ count
  | .lineReset _ _ b => payloadField b.payload
  | .claim _ _ b => payloadField b.payload
  | .release _ _ b => payloadField b.payload
  | .pause _ _ b => payloadField b.payload
  | .resume _ _ b => payloadField b.payload
  | .job _ _ b => payloadField b.payload
  | .date _ _ b => payloadField b.payload
  | .dispute _ _ b => payloadField b.payload
  | .credit _ _ b => payloadField b.payload
  | .accountQuery _ _ b => payloadField b.payload
  | .clearScale _ _ b => payloadField b.payload
  | .statusQuery _ _ b => payloadField b.payload
  | .online _ _ b => payloadField b.payload
  | .tariffOpen _ _ b => payloadField b.payload
  | .tariffData _ _ b => payloadField b.payload
  | .tariffClose _ _ b => payloadField b.payload
  | .powerOn | .configurationReadComplete none | .statusRecordRebuildComplete _ _ | .bankReadComplete _ _
  | .forwardStep _ _ | .backwardStep | .sighting | .entryUnblock | .exitCellBlock | .exitCellUnblock
  | .speedPeriodExpiry | .sampleArrival _ | .gaugeArrival _ | .headerReadComplete _ | .directoryEntryReadComplete _
  | .stepTableReadComplete _ | .statusWriteComplete _ | .debitWriteComplete | .creditWriteComplete | .attemptStart
  | .lostArbitration | .readBackFailure | .frameDelivered | .attemptFailed | .powerLoss _ | .firstIdleSeen => true

end Sys2Proof
end

