-- ==== Sys2Proof/Safety.lean ====
section
/-! DEFINITION. What a sound state of the part is: the laws the manual states over every state, block by block, and the
situations in which the statements about single commands are made. -/

namespace Sys2Proof.Machine

/-! ### Funds (07 R135, R138) -/

/-- Ascending plus descending equals the control total (07 R135). -/
def NvSet.balanced (n : NvSet) : Bool := n.ascending + n.descending == n.control

/-- A bank holds no good set, or a balanced one. -/
def bankBalanced : Option NvSet → Bool
  | none => true
  | some n => n.balanced

/-- The amount that the AU holds reserved for a record: its claim phase is CLAIMING or CLAIMED (07 R138). -/
def Record.held (r : Record) : Nat := if givenUp r then r.reserved.getD 0 else 0

/-- The amount in write (07 R138). -/
def amountInWrite : Option NvWrite → Nat
  | some (.debit item _) => item.amount
  | some (.credit _) | none => 0

/-- The debits in write: one or none. -/
def debitsInWrite : Option NvWrite → Nat
  | some (.debit _ _) => 1
  | some (.credit _) | none => 0

/-- The set in write continues the registers: a debit moves its amount from D to A, a credit takes nothing from D
(07 R142, R145). -/
def writeContinues (au : Account) : Bool :=
  match au.write with
  | none => true
  | some (.debit item set) => set.balanced && set.descending + item.amount == au.registers.descending
  | some (.credit set) => set.balanced && decide (au.registers.descending ≤ set.descending)

/-- A record that holds a reservation is PRESENT, from before no LINE RESET, and between D and K (02 R30). -/
def Record.claimPlaced (r : Record) : Bool :=
  !givenUp r || (r.presence == .present && r.awaits == .k && !r.beforeReset)

/-- A record whose debit has not completed holds no piece number (07 R143). -/
def Record.numberPlaced (r : Record) : Bool :=
  match r.claim with
  | .opened | .foreign | .claiming | .claimed | .debitWait => r.pieceNumber.isNone
  | .armed | .printing | .ended => true

/-- The debits that are queued or in write (07 R141, R142). -/
def Account.pendingDebits (au : Account) : List DebitItem :=
  (match au.write with
   | some (.debit item _) => [item]
   | some (.credit _) | none => []) ++ au.queue

/-- A pending debit is that of a record in DEBIT_WAIT that holds no piece number (07 R141, R143). -/
def debitHasRecord (rs : List Record) (i : DebitItem) : Bool :=
  rs.any (fun r => r.key == i.key && r.claim == .debitWait && r.pieceNumber.isNone && r.presence != .noticed)

/-- The volatile books of the AU (07 R138). -/
def State.booksAgree (s : State) : Bool :=
  s.au.reserved == (s.table.records.map Record.held).sum &&
    s.au.committed == (s.au.queue.map (fun i => i.amount)).sum + amountInWrite s.au.write &&
    s.au.outstanding ==
      (s.table.records.filter givenUp).length + s.au.queue.length + debitsInWrite s.au.write &&
    decide (s.au.reserved + s.au.committed ≤ s.au.registers.descending) && writeContinues s.au &&
    decide ((s.au.pendingDebits.map (fun i => i.key)).Nodup) &&
    s.au.pendingDebits.all (debitHasRecord s.table.records)

/-- Records other than EXITED ones stand only in a RUNNING station (02 R37, R39, R40). -/
def State.recordsByMode (s : State) : Bool := s.running || s.table.records.all (fun r => r.presence == .exited)

/-- The start-up read finds no records and empty books (02 R41, 07 R151). -/
def State.startUpEmpty (s : State) : Bool :=
  !s.inStartUp || (s.table.records.isEmpty && s.au.queue.isEmpty && s.au.write.isNone)

/-- Funds are sound: every bank balances, and in a powered part the books agree with the records and never promise more
than the descending register holds (07 R135, R138). -/
def State.fundsSound (s : State) : Bool :=
  bankBalanced s.au.bank0 && bankBalanced s.au.bank1 && decide ((s.table.records.map (fun r => r.key)).Nodup) &&
    (!s.loader.powered ||
      (s.booksAgree && s.table.records.all Record.claimPlaced && s.table.records.all Record.numberPlaced &&
        s.recordsByMode && s.startUpEmpty))

/-! ### The Piece Table (02 R18) -/

/-- Keys in key order, and no two within the match window of each other. -/
abbrev tableOrdered (window : Nat) (linePos : Pos) (rs : List Record) : Prop :=
  rs.Pairwise (fun a b => orderKey linePos a.key < orderKey linePos b.key ∧ window < apart a.key b.key)

/-- The table is sound: at most 16 records, in key order, no two within the window; none in the start-up read. -/
abbrev State.tableSound (s : State) : Prop :=
  s.table.records.length ≤ Config.tablePlaces ∧
    tableOrdered s.loader.config.window s.lpu.linePos s.table.records ∧
    (s.inStartUp = true → s.table.records = [])

/-- BLIND is raised exactly while the table holds a blind horizon (02 R28). -/
def State.blindSound (s : State) : Bool := s.inhibit.blind == s.table.horizon.isSome

/-! ### The transmit queue (09 R178, 11 R198) -/

/-- A payload has the length of its kind (11 Table 11-2). -/
def lengthFits (e : TxEntry) : Bool :=
  match e.kind with
  | .claim => e.payload.length == 10
  | .release => e.payload.length == 3
  | .pieceReport => e.payload.length == 11 || e.payload.length == 12
  | .dispute => e.payload.length == 7
  | .accountReport => e.payload.length == 12 || e.payload.length == 11
  | .statusReport => e.payload.length == 8 || e.payload.length == 7
  | .refusal => e.payload.length == 5
  | .online => e.payload.length == 6
  | .lineReset | .pause | .resume | .job | .date | .credit | .accountQuery | .clearScale | .statusQuery
  | .tariffOpen | .tariffData | .tariffClose => false

/-- Frames on the medium: one while an attempt is in progress, otherwise none. -/
def framesOnMedium (s : State) : Nat := (s.lc.queue.filter (fun e => e.onMedium)).length

/-- The transmit queue is sound: at most 8 frames in the order of their kind codes, only of the kinds a station sends
and of their length, none but a PIECE REPORT with 8 failures, none withdrawn but a CLAIM on the medium, and the attempt
in progress is that of one of them. -/
abbrev State.queueSound (s : State) : Prop :=
  s.lc.queue.length ≤ Config.queuePlaces ∧
    s.lc.queue.Pairwise (fun a b => a.kind.code ≤ b.kind.code) ∧
    (∀ e ∈ s.lc.queue,
      lengthFits e = true ∧ (e.failures < 8 ∨ (e.kind = .pieceReport ∧ e.failures = 8)) ∧
        (e.withdrawn = true → e.kind = .claim ∧ e.onMedium = true)) ∧
    framesOnMedium s = (if s.lc.attempt.isSome then 1 else 0)

/-! ### The tariff memory and its slots (04 R61) -/

/-- What goes to the tariff memory stays inside the slot areas, which are in canonical form. -/
def State.memorySound (s : State) : Bool :=
  Memory.wf s.tariff.areaA && Memory.wf s.tariff.areaB &&
    s.tariff.buffer.all (fun e => e.offset + e.data.length ≤ Config.areaBytes) &&
    (s.tariff.slotA.state != .loading || decide (s.tariff.slotA.length ≤ Config.areaBytes)) &&
    (s.tariff.slotB.state != .loading || decide (s.tariff.slotB.length ≤ Config.areaBytes))

/-- A slot is LOADING exactly when the load in progress names it. -/
def Tariff.loadNames (t : Tariff) (id : SlotId) : Bool :=
  ((t.slot id).state == .loading) == (t.load.map (fun l => l.slot) == some id)

/-- At most one slot is ACTIVE, and at most one is LOADING, the one of the load in progress (04 R61); no load runs in
the start-up read. -/
def State.slotsSound (s : State) : Bool :=
  !(s.tariff.slotA.state == .active && s.tariff.slotB.state == .active) &&
    s.tariff.loadNames .a && s.tariff.loadNames .b && (!s.inStartUp || s.tariff.load.isNone)

/-! ### Modes and sizes -/

/-- The mode reason is that of the mode (10 Table 10-3), and a mode stands once the three start-up reads have
completed. -/
def State.modeSound (s : State) : Bool :=
  !s.loader.powered ||
    (s.loader.mode.isSome == (s.loader.configDone && s.loader.slotsDone && s.loader.banksDone) &&
      match s.loader.mode, s.loader.reason with
      | some .hold, .hold _ => s.loader.fault.isNone
      | some .offline, .config f => s.loader.fault == some f
      | some .unsynced, .none | some .running, .none => s.loader.fault.isNone
      | none, .none => true
      | _, _ => false)

/-- Counters and lists within the sizes the manual gives them (01 R9, R11, R12, 04 R68, 05 R80, R86, 06 R123, R128,
09 R182). -/
def State.sizesSound (s : State) : Bool :=
  decide (-4095 ≤ s.lpu.tally) && decide (s.lpu.tally ≤ 4095) && decide (-4095 ≤ s.lpu.speed) &&
    decide (s.lpu.speed ≤ 4095) && decide (s.lpu.reversal ≤ 4095) && decide (s.lpu.entryRun ≤ 4095) &&
    decide (s.lpu.exitRun ≤ 4095) && decide (s.tariff.buffer.length ≤ 2) && decide (s.rater.jobs.length ≤ 3) &&
    s.rater.cache.length == 8 && s.rater.cache.all (fun l => l.length ≤ 3) && decide (s.cc.ring.length ≤ 16) &&
    decide ((s.cc.peers.map (fun p => p.station)).Nodup) && decide (s.lc.abandons ≤ 3)

/-! ### Situations -/

/-- The frame that a command brings: its kind, source, destination, and what follows its header. -/
def frameOfCommand : Instr → Option (Kind × Node × Node × FrameBody)
  | .lineReset s d b => some (.lineReset, s, d, b)
  | .claim s d b => some (.claim, s, d, b)
  | .release s d b => some (.release, s, d, b)
  | .pause s d b => some (.pause, s, d, b)
  | .resume s d b => some (.resume, s, d, b)
  | .job s d b => some (.job, s, d, b)
  | .date s d b => some (.date, s, d, b)
  | .dispute s d b => some (.dispute, s, d, b)
  | .credit s d b => some (.credit, s, d, b)
  | .accountQuery s d b => some (.accountQuery, s, d, b)
  | .clearScale s d b => some (.clearScale, s, d, b)
  | .statusQuery s d b => some (.statusQuery, s, d, b)
  | .online s d b => some (.online, s, d, b)
  | .tariffOpen s d b => some (.tariffOpen, s, d, b)
  | .tariffData s d b => some (.tariffData, s, d, b)
  | .tariffClose s d b => some (.tariffClose, s, d, b)
  | .powerOn | .configurationReadComplete _ | .statusRecordRebuildComplete _ _ | .bankReadComplete _ _
  | .forwardStep _ _ | .backwardStep | .sighting | .entryUnblock | .exitCellBlock | .exitCellUnblock
  | .speedPeriodExpiry | .sampleArrival _ | .gaugeArrival _ | .headerReadComplete _ | .directoryEntryReadComplete _
  | .stepTableReadComplete _ | .statusWriteComplete _ | .eraseComplete _ | .programComplete _ | .checkReadComplete _ _
  | .debitWriteComplete | .creditWriteComplete | .attemptStart | .lostArbitration | .readBackFailure | .frameDelivered
  | .attemptFailed | .powerLoss _ | .firstIdleSeen => none

/-- A delivered frame after its header: a payload, its check as its sender computes it, and no reject slot driven
(09 R170, R174). -/
def goodBody (kind : Kind) (src dst : Node) (payload : List Byte) : FrameBody :=
  { payload := payload, check := some (crc16 (checkedBits kind.code src dst payload)), rejected := false }

/-- A command by which the station reads its stores at start-up. -/
def isStartUpRead : Instr → Bool
  | .configurationReadComplete _ | .statusRecordRebuildComplete _ _ | .bankReadComplete _ _ => true
  | _ => false

/-- A step of the belt encoder. -/
def isBeltStep : Instr → Bool
  | .forwardStep _ _ | .backwardStep => true
  | _ => false

/-- A LINE RESET frame. -/
def isLineReset : Instr → Bool
  | .lineReset _ _ _ => true
  | _ => false

/-- A loss or a return of power. -/
def isPowerEvent : Instr → Bool
  | .powerOn | .powerLoss _ => true
  | _ => false

/-- The station hears a frame: the part is powered and has seen an idle medium, it is in UNSYNCED,
RUNNING or HOLD, and the frame is addressed to it or to all stations. -/
abbrev State.hears (s : State) (dst : Node) : Prop :=
  s.loader.powered = true ∧ s.lc.idleSeen = true ∧ s.inService = true ∧ (dst = s.loader.number ∨ dst = 15#4)

/-- The state after the station has driven the accept slot of a frame of another node (09 R173). -/
def State.accepting (s : State) : State := s.setLc { s.lc with receiver := false, drove := .accept }

/-- The state after the station has answered a frame with a REFUSAL, dropped when the transmit queue is full
(09 R173, R179, R184). -/
def State.refusing (s : State) (payload : List Byte) : State :=
  { s.accepting with
    lc :=
      { s.accepting.lc with
        queue :=
          if s.lc.queue.length < 8 then insertEntry (newEntry .refusal 0#4 payload) s.lc.queue else s.lc.queue } }

/-- A record stands in the table, or its report has been admitted to the transmit queue (02 R32, R33). -/
def State.keepsOrReports (s : State) (r : Record) : Prop :=
  r ∈ s.table.records ∨
    (r.reportReady = true ∧ newEntry .pieceReport 0#4 (reportPart1 r) ∈ s.lc.queue ∧
      newEntry .pieceReport 0#4 (reportPart2 r) ∈ s.lc.queue)

/-- Nothing waits for the tariff memory port, and no walk is in flight. -/
abbrev State.portIdle (s : State) : Prop :=
  s.tariff.port = none ∧ s.rater.walk = none ∧ s.tariff.writes = [] ∧ s.tariff.load = none

/-- A RUNNING station whose belt brings nothing but arrivals of records: the cells are clear, no horizon clearance and
no zero guard is set, and the tariff memory port is idle. -/
abbrev State.beltClear (s : State) : Prop :=
  s.loader.powered = true ∧ s.loader.mode = some .running ∧ s.lpu.entryBlocked = false ∧ s.lpu.exitBlocked = false ∧
    s.lpu.clearance = none ∧ s.wu.guardPos = none ∧ s.portIdle

/-- One record is the whole table, PRESENT, since the latest LINE RESET, and the next forward step brings it to the
target it awaits at a travel. -/
def State.onlyRecord (s : State) (r : Record) (travel : Nat) : Prop :=
  s.table.records = [r] ∧ r.presence = .present ∧ r.beforeReset = false ∧
    ∃ p, r.sightPos = some p ∧ s.lpu.linePos + 1#24 = p + pos travel

/-- The state right after the counters of a forward step. -/
def State.stepped (s : State) (phRdy phRdyAgain : Bool) : State :=
  ((s.setPins { s.pins with phRdy := phRdy, phRdyAgain := phRdyAgain }).setIp { s.ip with fired := [] }).setLpu
    (lpuForward s.lpu)

end Sys2Proof.Machine
end

