-- ==== Sys2Proof/Certificates/Slice0/Obligations.lean ====
section
/-! DEFINITION. The statements for the provers. A next state written with `with` says the frame too: every part of the
state it does not name is as it was. -/

section

open Sys2Proof Sys2Proof.Machine

/-! ### The machine as a whole -/

/-- The command at the front of the queue is run on the state that holds the rest; an empty queue idles (assumption log
5). -/
def Obligations.StepRunsTheFrontCommand : Prop :=
  (∀ (c : Instr) (rest : List Instr) (s : State), s.pending = c :: rest → step s = exec c (s.setPending rest)) ∧
    ∀ s : State, s.pending = [] → step s = .next s

/-- No command faults and none is refused, in any state, and none touches the queue of waiting commands (00 EVENTS:
every event is taken or ignored; assumption log 6, 34). -/
def Obligations.EveryCommandAnswersANextState : Prop :=
  ∀ (c : Instr) (s : State), ∃ t, exec c s = .next t ∧ t.pending = s.pending

/-- The funds law and the AU's books (07 R135, R138) hold after every step from every state in which they hold. -/
def Obligations.FundsStaySound : Prop :=
  ∀ s t : State, s.fundsSound = true → step s = .next t → t.fundsSound = true

/-- The Piece Table keeps its places, its key order and its distances (02 R18). -/
def Obligations.TableStaysOrdered : Prop := ∀ s t : State, s.tableSound → step s = .next t → t.tableSound

/-- The transmit queue keeps its places and its order (09 R178), and its frames their lengths (11 R198). -/
def Obligations.QueueStaysSound : Prop := ∀ s t : State, s.queueSound → step s = .next t → t.queueSound

/-- The slot areas stay in canonical form and inside their bounds; at most one slot is ACTIVE and at most one LOADING
(04 R61). -/
def Obligations.TariffMemoryStaysSound : Prop :=
  (∀ s t : State, s.memorySound = true → step s = .next t → t.memorySound = true) ∧
    ∀ s t : State, s.slotsSound = true → step s = .next t → t.slotsSound = true

/-- The mode reason stays that of the mode (10 R196), BLIND stays raised exactly while the table holds a blind horizon
(02 R28), and counters and lists stay within their sizes. -/
def Obligations.ModesAndSizesStaySound : Prop :=
  (∀ s t : State, s.modeSound = true → step s = .next t → t.modeSound = true) ∧
    (∀ s t : State, s.blindSound = true → step s = .next t → t.blindSound = true) ∧
    ∀ s t : State, s.sizesSound = true → step s = .next t → t.sizesSound = true

/-- The state right after power-on is sound in every respect; what the manual leaves open of it is named in assumption
log 1 to 4. -/
def Obligations.ResetIsSound : Prop :=
  State.reset.fundsSound = true ∧ State.reset.tableSound ∧ State.reset.queueSound ∧ State.reset.memorySound = true ∧
    State.reset.slotsSound = true ∧ State.reset.blindSound = true ∧ State.reset.modeSound = true ∧
    State.reset.sizesSound = true

/-- The registers change at the completion of a write and at power-on alone (07 R135); the slot areas at the completion
of an erase or a program alone (04 R67, R69; that a power loss or a power-on that cuts an erase or a program leaves the
area as it was is the model's choice, assumption log 14); the status records at the completion of a status write, and at
a power loss or a power-on that cuts one (04 R62, assumption log 14). -/
def Obligations.StoresChangeAtTheirCompletions : Prop :=
  ∀ (c : Instr) (s t : State), exec c s = .next t →
    (c ≠ .debitWriteComplete → c ≠ .creditWriteComplete → c ≠ .powerOn → isStartUpRead c = false →
      t.au.registers = s.au.registers) ∧
    ((∀ w, c ≠ .eraseComplete w) → (∀ w, c ≠ .programComplete w) →
      t.tariff.areaA = s.tariff.areaA ∧ t.tariff.areaB = s.tariff.areaB) ∧
    ((∀ w, c ≠ .statusWriteComplete w) → isPowerEvent c = false →
      t.tariff.recordA = s.tariff.recordA ∧ t.tariff.recordB = s.tariff.recordB)

/-- From the end of the start-up read on, nothing but a power-on changes the configuration copy (10 R197). -/
def Obligations.ConfigurationCopyIsKept : Prop :=
  ∀ (c : Instr) (s t : State), s.loader.mode ≠ none → c ≠ .powerOn → exec c s = .next t →
    t.loader.config = s.loader.config

/-- In a sound queue, a PIECE REPORT leaves by delivery or by power-on alone, and never changes its place among the
PIECE REPORTs (09 R178, R183). -/
def Obligations.PieceReportsLeaveByDelivery : Prop :=
  ∀ (c : Instr) (s t : State), s.queueSound → c ≠ .frameDelivered → c ≠ .powerOn → exec c s = .next t →
    ((s.lc.queue.filter (fun e => e.kind == .pieceReport)).map (fun e => e.payload)).Sublist
      ((t.lc.queue.filter (fun e => e.kind == .pieceReport)).map (fun e => e.payload))

/-- The station mode changes along 10 Table 10-3 alone, and at a loss of power. -/
def Obligations.ModesFollowTheirTable : Prop :=
  ∀ (c : Instr) (s t : State), s.loader.powered = true → exec c s = .next t → t.loader.mode ≠ s.loader.mode →
    (isPowerEvent c = true ∧ t.loader.mode = none) ∨
    (isStartUpRead c = true ∧ s.loader.mode = none ∧
      (t.loader.mode = some .unsynced ∨ t.loader.mode = some .offline)) ∨
    ((isBeltStep c = true ∨ c = .attemptFailed ∨ c = .readBackFailure) ∧ s.loader.mode = some .running ∧
      t.loader.mode = some .hold) ∨
    (isLineReset c = true ∧ (s.loader.mode = some .unsynced ∨ s.loader.mode = some .hold) ∧
      t.loader.mode = some .running)

/-- A record becomes CLAIMING on a forward step alone, in a RUNNING station none of whose inhibit reasons is raised but
perhaps BLIND, and BLIND only when the same step reaches the horizon clearance (06 R106, 01 R8, 02 R29). -/
def Obligations.ClaimsNeedAnEligibleStation : Prop :=
  ∀ (c : Instr) (s t : State), exec c s = .next t → ∀ r ∈ t.table.records, r.claim = .claiming →
    (∃ q ∈ s.table.records, q.key = r.key ∧ q.claim = .claiming) ∨
    ((∃ a b, c = .forwardStep a b) ∧ s.loader.mode = some .running ∧
      ({ s.inhibit with blind := false } : Inhibit).isEmpty = true ∧
      (s.inhibit.blind = true → ∃ c, s.lpu.clearance = some c ∧ atOrPast (s.lpu.linePos + 1#24) c = true))

/-! ### Power and the start-up read -/

/-- Power-on of an unpowered part: every block takes its power-on state (01 R17, 02 R41, 03 R60, 04 R79, 05 R104,
06 R134, 07 R151, 08 R168, 09 R188, 10 R189), and the banks, the status records and the slot areas are kept. -/
def Obligations.PowerOnTakesThePowerOnState : Prop :=
  ∀ s : State, s.loader.powered = false → ∃ t, exec .powerOn s = .next t ∧
    (t.loader.powered = true ∧ t.loader.mode = none ∧ t.loader.configDone = false ∧ t.loader.slotsDone = false ∧
      t.loader.banksDone = false) ∧
    (t.lpu.linePos = 0#24 ∧ t.lpu.synced = false ∧ t.lpu.tally = 0 ∧ t.lpu.speed = 0 ∧ t.lpu.reversal = 0 ∧
      t.lpu.entryRun = 0 ∧ t.lpu.exitRun = 0 ∧ t.lpu.entryOwner = none ∧ t.lpu.clearance = none) ∧
    (t.table.records = [] ∧ t.table.horizon = none ∧ t.wu.zeroFaults = 0 ∧ t.wu.guardPos = none) ∧
    (t.inhibit.noJob = true ∧ t.inhibit.noDate = true ∧ t.inhibit.overspeed = false ∧ t.inhibit.scaleFailed = false ∧
      t.inhibit.scaleSuspect = false ∧ t.inhibit.layout = false ∧ t.inhibit.blind = false ∧
      t.inhibit.paused = false) ∧
    (t.tariff.date = none ∧ t.tariff.buffer = [] ∧ t.tariff.load = none ∧ t.tariff.marker = none ∧
      t.tariff.writes = [] ∧ t.tariff.port = none) ∧
    (t.rater.jobs = [] ∧ t.rater.walk = none ∧ t.rater.limits = none ∧ (∀ l ∈ t.rater.cache, l = [])) ∧
    (t.cc.peers = [] ∧ t.cc.ring = [] ∧ t.ip.owner = none ∧ t.lc.queue = [] ∧ t.lc.attempt = none ∧
      t.lc.abandons = 0) ∧
    (t.au.reserved = 0 ∧ t.au.committed = 0 ∧ t.au.outstanding = 0 ∧ t.au.queue = [] ∧ t.au.write = none) ∧
    (t.au.bank0 = s.au.bank0 ∧ t.au.bank1 = s.au.bank1 ∧ t.tariff.recordA = s.tariff.recordA ∧
      t.tariff.recordB = s.tariff.recordB ∧ t.tariff.areaA = s.tariff.areaA ∧ t.tariff.areaB = s.tariff.areaB)

/-- A power loss leaves either the old set entire or the new set entire (07 R136): with hold-up the written bank holds
the new set, without it that bank holds no good set, and the current bank is untouched. That the volatile books of the
unpowered part stay as they stood is the model's choice (assumption log 26). -/
def Obligations.PowerLossSettlesTheWrite : Prop :=
  (∀ (holdUp : Bool) (s : State) (set : NvSet), s.loader.powered = true →
    (s.au.write = some (.credit set) ∨ ∃ item, s.au.write = some (.debit item set)) →
    ∃ t, exec (.powerLoss holdUp) s = .next t ∧ t.loader.powered = false ∧ t.au.current = s.au.current ∧
      t.au.bank s.au.current = s.au.bank s.au.current ∧
      t.au.bank s.au.current.other = (if holdUp then some set else none)) ∧
  ∀ (holdUp : Bool) (s : State), s.loader.powered = true → s.au.write = none →
    ∃ t, exec (.powerLoss holdUp) s = .next t ∧ t.loader.powered = false ∧ t.au = s.au

/-- The configuration read as the last of the three (10 R189 to R192): a good record brings UNSYNCED with its values, a
port that does not answer brings OFFLINE with READ and number 15; before the other two reads no mode is set. The other
checks of 10 Table 10-1 in their order, LENGTH to ORDER, each byte of the record by 11 Table 11-4, with the number that
each fault leaves (10 R192); that a record which ends before its declared length is READ is the model's reading
(assumption log 29). -/
def Obligations.ConfigurationReadEndsTheStartUp : Prop :=
  (∀ (s : State) (bytes : List Byte), s.inStartUp = true → s.loader.configDone = false → s.loader.slotsDone = true →
    s.loader.banksDone = true → configFaultOf (some bytes) = none →
    exec (.configurationReadComplete (some bytes)) s = .next
      { s with
        loader :=
          { s.loader with
            configDone := true, fault := none, mode := some .unsynced, reason := .none,
            config := parseConfig (bytes.take (declaredLength bytes)), number := BitVec.ofNat 4 (fieldAt 2 1 bytes) }
        lpu :=
          { s.lpu with
            entryBlocked := s.pins.cellEn, exitBlocked := s.pins.cellEx, entryRun := 0, exitRun := 0 }
        wu := { s.wu with zero := (parseConfig (bytes.take (declaredLength bytes))).initialZero } }) ∧
  (∀ s : State, s.inStartUp = true → s.loader.configDone = false → s.loader.slotsDone = true →
    s.loader.banksDone = true →
    exec (.configurationReadComplete none) s = .next
      { s with
        loader :=
          { s.loader with
            configDone := true, fault := some .read, mode := some .offline, reason := .config .read, number := 15#4 }
        lpu :=
          { s.lpu with
            entryBlocked := s.pins.cellEn, exitBlocked := s.pins.cellEx, entryRun := 0, exitRun := 0 } }) ∧
  (∀ (s : State) (read : Option (List Byte)), s.inStartUp = true → s.loader.configDone = false →
    (s.loader.slotsDone && s.loader.banksDone) = false →
    ∃ t, exec (.configurationReadComplete read) s = .next t ∧ t.loader.mode = none ∧ t.loader.configDone = true ∧
      t.loader.fault = configFaultOf read ∧ t.lpu = s.lpu ∧ t.wu = s.wu) ∧
  ∀ (s : State) (bytes b : List Byte) (n : Nat) (f : Nat → Nat → Nat) (why : ConfigFault) (number : Node)
    (out : Prop), s.inStartUp = true → s.loader.configDone = false → s.loader.slotsDone = true →
    s.loader.banksDone = true → n = fieldAt 0 2 bytes → b = bytes.take n →
    (∀ off size, f off size = fieldAt off size b) →
    (out ↔
      (∃ x ∈
        [(0, f 5 2, 4095), (0, f 7 2, 4095), (0, f 9 2, 4095), (0, f 11 2, 4095), (0, f 13 2, 4095), (0, f 15 2, 4095),
          (1, f 18 2, 4095), (1, f 22 2, 4095), (1, f 24 3, 1048575), (4, f 30 1, 64), (1, f 32 2, 65535),
          (1, f 34 1, 8), (1, f 35 1, 8), (1, f 36 3, 99999), (1, f 40 1, 16), (1, f 41 4, 99999999),
          (0, f 45 4, 99999999), (1, f 49 1, 15), (8, f 50 1, 240), (4, f 51 1, 10), (5, f 52 1, 16), (0, f 53 1, 239),
          (0, f 54 1, 47), (0, f 55 1, 1), (0, f 56 1, 239), (0, f 57 1, 47), (0, f 58 1, 1), (0, f 59 1, 239),
          (0, f 60 1, 47), (0, f 61 1, 1), (0, f 62 1, 239), (0, f 63 1, 47), (0, f 64 1, 1), (0, f 65 3, 999999)],
        x.2.1 < x.1 ∨ x.2.2 < x.2.1)) →
    ((why = .read ∧ number = 15#4 ∧ bytes.length < 2) ∨
      (2 ≤ bytes.length ∧
        ((why = .length ∧ number = 15#4 ∧ (n < 360 ∨ 6072 < n)) ∨
          (360 ≤ n ∧ n ≤ 6072 ∧
            ((why = .read ∧ number = 15#4 ∧ bytes.length < n) ∨
              (n ≤ bytes.length ∧
                ((why = .crc ∧ number = 15#4 ∧ crc32 (b.take (n - 4)) ≠ BitVec.ofNat 32 (f (n - 4) 4)) ∨
                  (crc32 (b.take (n - 4)) = BitVec.ofNat 32 (f (n - 4) 4) ∧
                    ((why = .station ∧ number = 15#4 ∧ (f 2 1 = 0 ∨ 14 < f 2 1)) ∨
                      (1 ≤ f 2 1 ∧ f 2 1 ≤ 14 ∧ number = BitVec.ofNat 4 (f 2 1) ∧
                        ((why = .range ∧ out) ∨
                          (¬ out ∧
                            ((why = .geometry ∧ n ≠ 72 + 24 * (f 50 1 + f 51 1)) ∨
                              (why = .order ∧ n = 72 + 24 * (f 50 1 + f 51 1) ∧
                                ¬ (0 < f 5 2 ∧ f 5 2 < f 7 2 ∧ f 7 2 < f 9 2 ∧ f 9 2 < f 11 2 ∧ f 11 2 ≤ f 13 2 ∧
                                  f 13 2 + (f 50 1 - 1) * f 49 1 < f 15 2 ∧ f 20 1 < f 18 2))))))))))))))) →
    exec (.configurationReadComplete (some bytes)) s = .next
      { s with
        loader :=
          { s.loader with
            configDone := true, fault := some why, mode := some .offline, reason := .config why, number := number }
        lpu :=
          { s.lpu with
            entryBlocked := s.pins.cellEn, exitBlocked := s.pins.cellEx, entryRun := 0, exitRun := 0 } }

/-- The rebuild of the slot descriptors (04 R79), not yet the last of the three reads: an absent, EMPTY or LOADING
record gives EMPTY, the one ACTIVE record of the two gives ACTIVE, two ACTIVE records give READY twice. That NO_TARIFF
is settled by this read and not at the end of the start-up read is the model's reading (assumption log 28). -/
def Obligations.RebuildReadsTheStatusRecords : Prop :=
  ∀ (s : State) (readA readB : Bool), s.inStartUp = true → s.loader.slotsDone = false → s.loader.configDone = false →
    ∃ t, exec (.statusRecordRebuildComplete readA readB) s = .next t ∧
      t =
        { s with
          tariff := { s.tariff with slotA := t.tariff.slotA, slotB := t.tariff.slotB }
          inhibit := { s.inhibit with noTariff := t.inhibit.noTariff }
          loader := { s.loader with slotsDone := true } } ∧
      (∀ id : SlotId,
        ((if id = .a then readA else readB) = false ∨ s.tariff.record id = none ∨
          (∃ r, s.tariff.record id = some r ∧ (r.state = .empty ∨ r.state = .loading)) →
          (t.tariff.slot id).state = .empty) ∧
        ∀ r, (if id = .a then readA else readB) = true → s.tariff.record id = some r → r.state ≠ .empty →
          r.state ≠ .loading →
          (t.tariff.slot id).image = r.image ∧ (t.tariff.slot id).ordinal = r.ordinal ∧
          (t.tariff.slot id).length = r.length ∧ (t.tariff.slot id).invalid = r.invalid ∧
          (r.state ≠ .active → (t.tariff.slot id).state = r.state)) ∧
      (∀ a b, readA = true → readB = true → s.tariff.recordA = some a → s.tariff.recordB = some b →
        a.state = .active → b.state = .active → t.tariff.slotA.state = .ready ∧ t.tariff.slotB.state = .ready) ∧
      (∀ (id : SlotId) (r : SlotRecord), (if id = .a then readA else readB) = true → s.tariff.record id = some r →
        r.state = .active →
        ((if id = .a then readB else readA) = false ∨ (∀ o, s.tariff.record id.other = some o → o.state ≠ .active)) →
        (t.tariff.slot id).state = .active) ∧
      (t.inhibit.noTariff = true ↔ t.tariff.slotA.state ≠ .active ∧ t.tariff.slotB.state ≠ .active)

/-- The bank read (07 R137, R147, R151), not yet the last of the three reads: the choice of the current bank, the
faulted store, EXHAUSTED. That EXHAUSTED is settled by this read while the start-up read still runs is the model's
reading (assumption log 28). -/
def Obligations.BankReadChoosesTheCurrentBank : Prop :=
  ∀ (s : State) (match0 match1 : Bool), s.inStartUp = true → s.loader.banksDone = false → s.loader.configDone = false →
    ∃ t, exec (.bankReadComplete match0 match1) s = .next t ∧
      t =
        { s with
          au := { s.au with current := t.au.current, faulted := t.au.faulted }
          inhibit := { s.inhibit with exhausted := t.inhibit.exhausted }
          loader := { s.loader with banksDone := true } } ∧
      ((match0 = false ∨ s.au.bank0 = none) → (match1 = false ∨ s.au.bank1 = none) →
        t.au.faulted = true ∧ t.inhibit.exhausted = true ∧ t.au.registers = NvSet.blank) ∧
      (∀ a, match0 = true → s.au.bank0 = some a → (match1 = false ∨ s.au.bank1 = none) →
        t.au.faulted = false ∧ t.au.registers = a) ∧
      (∀ b, (match0 = false ∨ s.au.bank0 = none) → match1 = true → s.au.bank1 = some b →
        t.au.faulted = false ∧ t.au.registers = b) ∧
      (∀ a b, match0 = true → match1 = true → s.au.bank0 = some a → s.au.bank1 = some b →
        t.au.faulted = false ∧ t.au.registers = (if b.generation = (a.generation + 1) % 256 then b else a)) ∧
      (t.au.faulted = false → (t.inhibit.exhausted = true ↔ t.au.registers.count = 999999999))

/-! ### The belt -/

/-- The counters of the LPU after a forward step, in every powered state and mode (01 R1, R9, R11, R12), and what a
forward step never touches. A NOTICED record that reaches its notice limit in RUNNING is removed (01 R8, 02 R27); a
horizon clearance that is reached clears the horizon and BLIND in RUNNING, and is dropped without them in another mode
(01 R8, 02 R29). -/
def Obligations.ForwardStepCounts : Prop :=
  (∀ (a b : Bool) (s : State), s.loader.powered = true → ∃ t, exec (.forwardStep a b) s = .next t ∧
     t.lpu.linePos = s.lpu.linePos + 1#24 ∧ t.lpu.tally = min (s.lpu.tally + 1) 4095 ∧ t.lpu.reversal = 0 ∧
     t.lpu.entryRun = (if s.lpu.entryBlocked then min (s.lpu.entryRun + 1) 4095 else s.lpu.entryRun) ∧
     t.lpu.exitRun = (if s.lpu.exitBlocked then min (s.lpu.exitRun + 1) 4095 else s.lpu.exitRun) ∧
     t.lpu.synced = s.lpu.synced ∧ t.lpu.speed = s.lpu.speed ∧ t.lpu.entryBlocked = s.lpu.entryBlocked ∧
     t.lpu.exitBlocked = s.lpu.exitBlocked ∧ t.loader.config = s.loader.config ∧ t.cc = s.cc ∧
     t.rater.jobs = s.rater.jobs ∧ t.tariff.slotA = s.tariff.slotA ∧ t.tariff.slotB = s.tariff.slotB ∧
     t.tariff.areaA = s.tariff.areaA ∧ t.tariff.areaB = s.tariff.areaB ∧ t.wu.zero = s.wu.zero ∧
     t.au.registers = s.au.registers) ∧
  (∀ (a b : Bool) (s : State) (r : Record), s.beltClear → s.table.records = [r] → r.presence = .noticed →
    r.beforeReset = false → r.noticeLimit = some (s.lpu.linePos + 1#24) → s.lpu.entryOwner ≠ some r.key →
    exec (.forwardStep a b) s = .next { s.stepped a b with table := { s.table with records := [] } }) ∧
  ∀ (a b : Bool) (s : State), s.loader.powered = true → s.lpu.entryBlocked = false → s.lpu.exitBlocked = false →
    s.wu.guardPos = none → s.portIdle → s.table.records = [] → s.lpu.clearance = some (s.lpu.linePos + 1#24) →
    (s.loader.mode = some .running →
      exec (.forwardStep a b) s = .next
        { s.stepped a b with
          lpu := { (s.stepped a b).lpu with clearance := none }
          table := { s.table with horizon := none }
          inhibit := { s.inhibit with blind := false } }) ∧
    (s.loader.mode ≠ some .running →
      exec (.forwardStep a b) s = .next
        { s.stepped a b with lpu := { (s.stepped a b).lpu with clearance := none } })

/-- The counters of the LPU after a backward step (01 R1, R9, R11, R12), and the REVERSED request: only a RUNNING
station whose accumulator exceeds the tolerance enters HOLD (01 R14, 10 R194). -/
def Obligations.BackwardStepCounts : Prop :=
  ∀ s : State, s.loader.powered = true → ∃ t, exec .backwardStep s = .next t ∧
    t.lpu.linePos = s.lpu.linePos - 1#24 ∧ t.lpu.tally = max (s.lpu.tally - 1) (-4095) ∧
    t.lpu.reversal = min (s.lpu.reversal + 1) 4095 ∧
    t.lpu.entryRun = (if s.lpu.entryBlocked then s.lpu.entryRun - 1 else s.lpu.entryRun) ∧
    t.lpu.exitRun = (if s.lpu.exitBlocked then s.lpu.exitRun - 1 else s.lpu.exitRun) ∧
    (s.loader.mode = some .running → s.loader.config.tolerance < min (s.lpu.reversal + 1) 4095 →
      t.loader.mode = some .hold ∧ t.loader.reason = .hold .reversed ∧
      ∀ r ∈ t.table.records, r.presence = .exited) ∧
    (s.loader.mode ≠ some .running ∨ min (s.lpu.reversal + 1) 4095 ≤ s.loader.config.tolerance →
      t.table.records.Perm s.table.records ∧
      t = { s with
            lpu := t.lpu, table := { s.table with records := t.table.records }, ip := { s.ip with fired := [] } } ∧
      t.lpu.entryOwner = s.lpu.entryOwner ∧ t.lpu.clearance = s.lpu.clearance)

/-- A blocked exit cell that runs past the jam length, or to 4,095, puts a RUNNING station into HOLD with JAM (01 R13,
10 R194); the table is empty and nothing else is due. -/
def Obligations.JamPutsTheStationIntoHold : Prop :=
  ∀ (a b : Bool) (s : State), s.loader.powered = true → s.loader.mode = some .running → s.table.records = [] →
    s.lpu.clearance = none → s.wu.guardPos = none → s.portIdle → s.lpu.exitBlocked = true →
    (s.loader.config.jamLength < min (s.lpu.exitRun + 1) 4095 ∨ 4095 ≤ s.lpu.exitRun + 1) →
    exec (.forwardStep a b) s = .next
      { s.stepped a b with
        loader := { s.loader with mode := some .hold, reason := .hold .jam }
        lpu := { (s.stepped a b).lpu with entryOwner := none }
        ip := { owner := none, fired := [] } }

/-- HOLD entry, here by a REVERSED request (02 R37, 06 R132, 07 R150, 08 R165): every reservation is released, the
books of the debits are kept, and nothing prints; the CLAIM of a CLAIMING record leaves the queue or, on the medium, is
withdrawn, and a RELEASE is queued for each CLAIMED record when there is room for all; a committed, ARMED or PRINTING
record is kept as EXITED and SPOILED or reported so, an EXITED one stays or is reported, and every record that is not
debited here is gone. -/
def Obligations.HoldEntrySettlesTheRecords : Prop :=
  ∀ s : State, s.loader.powered = true → s.fundsSound = true → s.tableSound → s.loader.mode = some .running →
    s.loader.config.tolerance < min (s.lpu.reversal + 1) 4095 →
    ∃ t, exec .backwardStep s = .next t ∧ t.au.reserved = 0 ∧ t.au.committed = s.au.committed ∧
      t.au.queue = s.au.queue ∧ t.au.write = s.au.write ∧ t.au.registers = s.au.registers ∧ t.ip.owner = none ∧
      t.inhibit = s.inhibit ∧ t.cc = s.cc ∧ t.wu = s.wu ∧ t.table.horizon = s.table.horizon ∧
      t.rater.jobs = s.rater.jobs ∧ t.rater.cache = s.rater.cache ∧
      (∀ r ∈ t.table.records, r.presence = .exited) ∧
      (∀ r ∈ s.table.records, r.presence = .present → r.claim = .debitWait → r.pieceNumber = none →
        ∃ q ∈ t.table.records, q.key = r.key ∧ q.presence = .exited ∧ q.claim = .debitWait ∧
          q.outcome = some (r.outcome.getD .spoiled) ∧ (r.outcome = none → q.pass = .hold) ∧
          (r.outcome ≠ none → q.pass = r.pass)) ∧
      (∀ r ∈ s.table.records,
        (s.queueSound → r.claim = .claiming → ∀ e ∈ t.lc.queue, e.kind = .claim → e.record = some r.key →
          e.onMedium = true ∧ e.withdrawn = true) ∧
        (r.claim = .claimed →
          s.lc.queue.length + (s.table.records.filter (fun x => x.claim == .claimed)).length ≤ 8 →
          newEntry .release 15#4 (beBytes 3 r.key.toNat) ∈ t.lc.queue) ∧
        (r.presence = .exited → t.keepsOrReports r) ∧
        (r.presence = .present → (r.claim = .armed ∨ r.claim = .printing) → r.outcome = none →
          t.keepsOrReports { r with presence := .exited, claim := .ended, outcome := some .spoiled, pass := .hold }) ∧
        (r.presence = .present → r.claim = .ended → r.pieceNumber ≠ none →
          t.keepsOrReports { r with presence := .exited })) ∧
      ∀ q ∈ t.table.records, ∃ r ∈ s.table.records, r.key = q.key ∧ (r.presence = .exited ∨ r.debitedHere = true)

/-- A sighting that no record matches, with a free place, creates a PRESENT record with the job in force (01 R4, 02 R24,
03 R47, R58, 05 R82). Of the pending jobs after the job in force, or of all jobs when none is, the last that applies is
taken and the jobs before it are discarded; with none, the job in force is kept, or the record has no job (05 R82). That
the jobs kept are put in order from the new reference key is the model's reading (assumption log 31). -/
def Obligations.SightingCreatesARecord : Prop :=
  (∀ (s : State) (k : Pos), s.loader.powered = true → s.loader.mode = some .running → s.lpu.synced = true →
    s.lpu.entryBlocked = false → k = s.lpu.linePos - BitVec.ofNat 24 s.loader.config.offset →
    s.table.records.length < 16 → (∀ q ∈ s.table.records, within s.loader.config.window q.key k = false) →
    (s.rater.jobs = [] ∨ ∃ j, s.rater.jobs = [j] ∧ j.inForce = true) →
    ∃ (t : State) (r : Record), exec .sighting s = .next t ∧ t.table.records.Perm (r :: s.table.records) ∧
      t =
        { s with
          pins := { s.pins with cellEn := true }
          lpu := { s.lpu with entryBlocked := true, entryRun := 0, entryOwner := some k }
          table := { s.table with records := t.table.records } } ∧
      r.key = k ∧ r.presence = .present ∧ r.phase = .measuring ∧ r.claim = .opened ∧ r.pass = .none ∧
      r.outcome = none ∧ r.disputeSent = false ∧ r.conflict = false ∧ r.lost = false ∧ r.tailgate = false ∧
      r.length = none ∧ r.thickness = 0 ∧ r.weighing.count = 0 ∧ r.weighing.sum = 0 ∧ r.weighing.min = none ∧
      r.weighing.max = none ∧ r.weighing.settled = false ∧ r.weighing.overFlag = false ∧ r.rating = none ∧
      r.foreign = none ∧ r.reserved = none ∧ r.pieceNumber = none ∧ r.sightPos = some s.lpu.linePos ∧
      r.awaits = .ps ∧ r.exitSeen = false ∧ r.beforeReset = false ∧
      (s.rater.jobs = [] → r.job = none ∧ r.terms = none) ∧
      ∀ j, s.rater.jobs = [j] →
        r.job = some j.number ∧ r.terms = some { cls := j.cls, zone := j.zone, service := j.service }) ∧
  ∀ (s : State) (k : Pos) (applies : Job → Prop), s.loader.powered = true → s.loader.mode = some .running →
    s.lpu.synced = true → s.lpu.entryBlocked = false → k = s.lpu.linePos - BitVec.ofNat 24 s.loader.config.offset →
    s.table.records.length < 16 → (∀ q ∈ s.table.records, within s.loader.config.window q.key k = false) →
    (∀ j, applies j ↔ (precedes j.key k = true ∨ j.key = k)) →
    (∀ (front : List Job) (j : Job) (back : List Job), s.rater.jobs = front ++ j :: back →
      (s.rater.jobs.map (fun x => x.key)).Nodup → (∀ x ∈ j :: back, x.inForce = false) → applies j →
      (∀ x ∈ back, ¬ applies x) →
      ∃ (t : State) (r : Record), exec .sighting s = .next t ∧ t.table.records.Perm (r :: s.table.records) ∧
        t =
          { s with
            pins := { s.pins with cellEn := true }
            lpu := { s.lpu with entryBlocked := true, entryRun := 0, entryOwner := some k }
            table := { s.table with records := t.table.records }
            rater := { s.rater with jobs := t.rater.jobs, ref := j.key } } ∧
        r.key = k ∧ r.presence = .present ∧ r.job = some j.number ∧
        r.terms = some { cls := j.cls, zone := j.zone, service := j.service } ∧
        t.rater.jobs.Perm ({ j with inForce := true } :: back) ∧
        t.rater.jobs.Pairwise (fun x y => orderKey j.key x.key ≤ orderKey j.key y.key)) ∧
    (∀ (front : List Job) (j : Job) (back : List Job), s.rater.jobs = front ++ j :: back →
      (∀ x ∈ front, x.inForce = false) → j.inForce = true → (∀ x ∈ back, ¬ applies x) →
      ∃ (t : State) (r : Record), exec .sighting s = .next t ∧ t.table.records.Perm (r :: s.table.records) ∧
        t =
          { s with
            pins := { s.pins with cellEn := true }
            lpu := { s.lpu with entryBlocked := true, entryRun := 0, entryOwner := some k }
            table := { s.table with records := t.table.records } } ∧
        r.key = k ∧ r.presence = .present ∧ r.job = some j.number ∧
        r.terms = some { cls := j.cls, zone := j.zone, service := j.service }) ∧
    ((∀ x ∈ s.rater.jobs, x.inForce = false ∧ ¬ applies x) →
      ∃ (t : State) (r : Record), exec .sighting s = .next t ∧ t.table.records.Perm (r :: s.table.records) ∧
        t =
          { s with
            pins := { s.pins with cellEn := true }
            lpu := { s.lpu with entryBlocked := true, entryRun := 0, entryOwner := some k }
            table := { s.table with records := t.table.records } } ∧
        r.key = k ∧ r.presence = .present ∧ r.job = none ∧ r.terms = none)

/-- The other sightings (01 R4, 02 R22, R23, R25, R28): not handed on outside RUNNING or unsynced; a tailgate; an
untracked piece on a full table; a NOTICED record made PRESENT; a held horizon, which moves to a key that follows it and
is kept for one that precedes or equals it; an EXITED record, which a sighting within its window leaves as it was. -/
def Obligations.SightingMeetsTheTable : Prop :=
  ((∀ (s : State) (m : StationMode), s.loader.powered = true → s.loader.mode = some m →
     (m ≠ .running ∨ s.lpu.synced = false) → s.lpu.entryBlocked = false →
     exec .sighting s = .next
       { s with
         pins := { s.pins with cellEn := true }
         lpu := { s.lpu with entryBlocked := true, entryRun := 0, entryOwner := none } }) ∧
   (∀ (s : State) (k : Pos), s.loader.powered = true → s.loader.mode = some .running → s.lpu.synced = true →
     s.lpu.entryBlocked = false → k = s.lpu.linePos - BitVec.ofNat 24 s.loader.config.offset →
     s.loader.config.x ≤ 4095 → s.table.horizon = none → s.rater.walk = none →
     (∀ r, s.table.records = [r] → r.presence = .present → within s.loader.config.window r.key k = true →
       exec .sighting s = .next
         { s with
           pins := { s.pins with cellEn := true }
           lpu :=
             { s.lpu with
               entryBlocked := true, entryRun := 0, entryOwner := none,
               clearance := some (k + BitVec.ofNat 24 (s.loader.config.offset + s.loader.config.x + 4096)) }
           table :=
             { records := [{ r with phase := .faulted, tailgate := true, pass := .tailgate, waiting := false }]
               horizon := some k }
           inhibit := { s.inhibit with blind := true } }) ∧
     (16 ≤ s.table.records.length → (∀ q ∈ s.table.records, within s.loader.config.window q.key k = false) →
       exec .sighting s = .next
         { s with
           pins := { s.pins with cellEn := true }
           lpu :=
             { s.lpu with
               entryBlocked := true, entryRun := 0, entryOwner := none,
               clearance := some (k + BitVec.ofNat 24 (s.loader.config.offset + s.loader.config.x + 4096)) }
           table := { s.table with horizon := some k }
           inhibit := { s.inhibit with blind := true } })) ∧
   ∀ (s : State) (r : Record), s.loader.powered = true → s.loader.mode = some .running → s.lpu.synced = true →
     s.lpu.entryBlocked = false → s.table.records = [r] → r.presence = .noticed → s.rater.jobs = [] →
     within s.loader.config.window r.key (s.lpu.linePos - BitVec.ofNat 24 s.loader.config.offset) = true →
     ∃ (t : State) (q : Record), exec .sighting s = .next t ∧
       t =
         { s with
           pins := { s.pins with cellEn := true }
           lpu := { s.lpu with entryBlocked := true, entryRun := 0, entryOwner := some r.key }
           table := { s.table with records := [q] } } ∧
       q.key = r.key ∧ q.presence = .present ∧ q.phase = .measuring ∧ q.claim = r.claim ∧ q.foreign = r.foreign ∧
       q.pass = r.pass ∧ q.job = r.job ∧ q.noticeLimit = none ∧ q.sightPos = some s.lpu.linePos ∧ q.awaits = .ps ∧
       q.thickness = 0 ∧ q.weighing.count = 0 ∧ q.weighing.sum = 0) ∧
  ∀ (s : State) (k h : Pos), s.loader.powered = true → s.loader.mode = some .running → s.lpu.synced = true →
    s.lpu.entryBlocked = false → k = s.lpu.linePos - BitVec.ofNat 24 s.loader.config.offset →
    s.loader.config.x ≤ 4095 → s.table.horizon = some h →
    ((16 ≤ s.table.records.length ∧ ∀ q ∈ s.table.records, within s.loader.config.window q.key k = false) ∨
      ∃ r, s.table.records = [r] ∧ r.presence = .exited ∧ within s.loader.config.window r.key k = true) →
    (precedes h k = true →
      exec .sighting s = .next
        { s with
          pins := { s.pins with cellEn := true }
          lpu :=
            { s.lpu with
              entryBlocked := true, entryRun := 0, entryOwner := none,
              clearance := some (k + BitVec.ofNat 24 (s.loader.config.offset + s.loader.config.x + 4096)) }
          table := { s.table with horizon := some k }
          inhibit := { s.inhibit with blind := true } }) ∧
    (precedes k h = true ∨ k = h →
      exec .sighting s = .next
        { s with
          pins := { s.pins with cellEn := true }
          lpu := { s.lpu with entryBlocked := true, entryRun := 0, entryOwner := none }
          inhibit := { s.inhibit with blind := true } })

/-- The unblocking of the entry cell (01 R15, 03 R53): the length and exit target of the owner, or the zero guard. -/
def Obligations.EntryUnblockHandsTheLength : Prop :=
  (∀ (s : State) (m : StationMode) (k : Pos), s.loader.powered = true → s.loader.mode = some m →
    s.lpu.entryBlocked = true → s.lpu.entryOwner = some k →
    (∀ r ∈ s.table.records, r.key = k → r.awaits ≠ .exit) →
    exec .entryUnblock s = .next
      { s with
        pins := { s.pins with cellEn := false }
        lpu := { s.lpu with entryBlocked := false, entryOwner := none }
        table :=
          { s.table with
            records := s.table.records.map (fun r =>
              if r.key = k then
                { r with
                  length := some s.lpu.entryRun
                  exitTarget :=
                    r.sightPos.map (fun p => p + BitVec.ofNat 24 (s.lpu.entryRun + s.loader.config.x)) }
              else r) } }) ∧
  ∀ (s : State) (m : StationMode), s.loader.powered = true → s.loader.mode = some m → s.lpu.entryBlocked = true →
    s.lpu.entryOwner = none →
    exec .entryUnblock s = .next
      { s with
        pins := { s.pins with cellEn := false }
        lpu := { s.lpu with entryBlocked := false }
        wu :=
          { s.wu with
            guardPos :=
              if m = .running then
                match s.wu.guardPos with
                | none => some (s.lpu.linePos + BitVec.ofNat 24 (s.loader.config.pe + 1))
                | some g =>
                  if precedes g (s.lpu.linePos + BitVec.ofNat 24 (s.loader.config.pe + 1)) then
                    some (s.lpu.linePos + BitVec.ofNat 24 (s.loader.config.pe + 1))
                  else some g
              else s.wu.guardPos } }

/-- The exit cell (01 R12, R16): its block starts a run and marks the records whose window is open; its unblock keeps
the run. A record that reaches the exit window opens it, and is seen at once if the exit cell is blocked. -/
def Obligations.ExitCellMarksOpenWindows : Prop :=
  (∀ (s : State) (m : StationMode), s.loader.powered = true → s.loader.mode = some m →
     (s.lpu.exitBlocked = false →
       exec .exitCellBlock s = .next
         { s with
           pins := { s.pins with cellEx := true }
           lpu := { s.lpu with exitBlocked := true, exitRun := 0 }
           table :=
             { s.table with
               records := s.table.records.map (fun r => if r.windowOpen then { r with exitSeen := true } else r) } }) ∧
     exec .exitCellUnblock s = .next
       { s with pins := { s.pins with cellEx := false }, lpu := { s.lpu with exitBlocked := false } }) ∧
  ∀ (a b : Bool) (s : State) (r : Record), s.loader.powered = true → s.loader.mode = some .running →
    s.lpu.entryBlocked = false → s.lpu.clearance = none → s.wu.guardPos = none → s.portIdle →
    s.onlyRecord r s.loader.config.x → r.awaits = .window →
    (s.lpu.exitBlocked = true → s.lpu.exitRun + 1 ≤ s.loader.config.jamLength ∧ s.lpu.exitRun + 1 < 4095) →
    (∀ e, r.exitTarget = some e → precedes (s.lpu.linePos + 1#24) e = true) →
    exec (.forwardStep a b) s = .next
      { s.stepped a b with
        table :=
          { s.table with
            records :=
              [{ r with awaits := .exit, windowOpen := true, exitSeen := r.exitSeen || s.lpu.exitBlocked }] } }

/-- The expiry of the speed period (01 R9, R10). -/
def Obligations.SpeedPeriodDecidesOverspeed : Prop :=
  ∀ s : State, s.loader.powered = true →
    (s.inService = true →
      exec .speedPeriodExpiry s = .next
        { s with
          lpu := { s.lpu with speed := s.lpu.tally, tally := 0 }
          inhibit :=
            { s.inhibit with
              overspeed :=
                if (s.loader.config.vmax : Int) < s.lpu.tally then true
                else if s.lpu.tally ≤ (s.loader.config.vmax : Int) - s.loader.config.vhyst then false
                else s.inhibit.overspeed } }) ∧
    (s.inService = false →
      exec .speedPeriodExpiry s = .next { s with lpu := { s.lpu with speed := s.lpu.tally, tally := 0 } })

/-! ### Weighing and dimensioning -/

/-- A sample is attributed to a MEASURING record alone and fully on the platform, converted, clamped and accumulated
(03 R43 to R47); at 255 samples it is discarded. The last clause is the clamping of any accumulated value (03 R46):
below 0 it counts as 0 and sets no flag, above 25,000 it counts as 25,000 and sets the over flag, which stays set. -/
def Obligations.SampleIsAttributed : Prop :=
  (∀ (s : State) (r : Record) (raw : BitVec 24) (p : Pos) (d l : Nat), s.loader.powered = true →
    s.loader.mode = some .running → s.table.records = [r] → r.presence = .present → r.phase = .measuring →
    r.sightPos = some p → r.length = some l → s.lpu.linePos = p + BitVec.ofNat 24 d → l ≤ d → d ≤ 8388607 →
    s.loader.config.ps + l ≤ d → d ≤ s.loader.config.pe →
    (r.weighing.count = 255 → exec (.sampleArrival raw) s = .next s) ∧
    ∀ (v : Int) (x : Nat), v = (raw.toInt - s.wu.zero) * (s.loader.config.gain : Int) / 65536 →
      x = (if v < 0 then 0 else if 25000 < v then 25000 else v.toNat) → r.weighing.count ≠ 255 →
      ∃ w : Weighing, exec (.sampleArrival raw) s = .next
          { s with table := { s.table with records := [{ r with weighing := w }] } } ∧
        w.count = r.weighing.count + 1 ∧ w.sum = r.weighing.sum + x ∧
        w.min = some (min x (r.weighing.min.getD x)) ∧ w.max = some (max x (r.weighing.max.getD x)) ∧
        w.overFlag = (r.weighing.overFlag || decide (25000 < v)) ∧ w.settled = r.weighing.settled ∧
        w.weight = r.weighing.weight) ∧
  ∀ (v : Int) (w : Weighing), w.count ≠ 255 →
    (v < 0 → (accumulate v w).sum = w.sum ∧ (accumulate v w).overFlag = w.overFlag) ∧
    (0 ≤ v → v ≤ 25000 → (accumulate v w).sum = w.sum + v.toNat ∧ (accumulate v w).overFlag = w.overFlag) ∧
    (25000 < v → (accumulate v w).sum = w.sum + 25000 ∧ (accumulate v w).overFlag = true)

/-- Samples of an empty platform move the zero or count toward SCALE_FAILED (03 R52, R54, R55); outside RUNNING every
sample is discarded (03 R42). -/
def Obligations.EmptyPlatformTracksTheZero : Prop :=
  (∀ (s : State) (raw : BitVec 24) (delta : Int), s.loader.powered = true → s.loader.mode = some .running →
    (∀ r ∈ s.table.records, r.presence ≠ .present) → (s.lpu.entryBlocked = false ∨ s.lpu.entryOwner ≠ none) →
    s.wu.guardPos = none → delta = raw.toInt - s.wu.zero →
    (delta.natAbs ≤ s.loader.config.zeroBand →
      exec (.sampleArrival raw) s = .next
        { s with wu := { s.wu with zero := s.wu.zero + delta.tdiv 16, zeroFaults := 0 } }) ∧
    (s.loader.config.zeroBand < delta.natAbs → s.wu.zeroFaults + 1 < s.loader.config.zeroFaultLimit →
      exec (.sampleArrival raw) s = .next { s with wu := { s.wu with zeroFaults := s.wu.zeroFaults + 1 } }) ∧
    (s.loader.config.zeroBand < delta.natAbs → s.loader.config.zeroFaultLimit ≤ s.wu.zeroFaults + 1 →
      exec (.sampleArrival raw) s = .next
        { s with
          wu := { s.wu with zeroFaults := s.loader.config.zeroFaultLimit }
          inhibit := { s.inhibit with scaleFailed := true } })) ∧
  ∀ (s : State) (raw : BitVec 24), s.loader.mode ≠ some .running → exec (.sampleArrival raw) s = .next s

/-- A gauge reading goes to the entry owner while it blocks the cell, at most as 255; otherwise it is discarded
(03 R57). -/
def Obligations.GaugeRaisesTheThickness : Prop :=
  (∀ (s : State) (reading : BitVec 10) (k : Pos), s.loader.powered = true → s.inService = true →
    s.lpu.entryBlocked = true → s.lpu.entryOwner = some k →
    exec (.gaugeArrival reading) s = .next
      { s with
        table :=
          { s.table with
            records := s.table.records.map (fun r =>
              if r.key = k then { r with thickness := max r.thickness (min reading.toNat 255) } else r) } }) ∧
  ∀ (s : State) (reading : BitVec 10), (s.lpu.entryBlocked = false ∨ s.lpu.entryOwner = none) →
    exec (.gaugeArrival reading) s = .next s

/-- The end of weighing at Pe (03 R48 to R50): too few samples fault the record; enough give the rounded mean of a
settled weighing, else the maximum. The request of the weighed record is taken at once, the RE being idle (05 R83,
R84): without job terms it ends with NO_JOB, without an ACTIVE slot with NO_TARIFF; with no fitting limit copy a walk
starts at its header read, with one the piece is classified, and a miss of the rate line cache starts the walk at its
directory read while a hit rates the piece (05 R85, R87, R90, R91; 04 R63, R64). A sample that the Pe position alone
gives to the record, and that comes together with the forward step to Pe, is accumulated or discarded (03 R51), and is
discarded with no such step (03 R44); that the step comes together when it waits next is the model's choice (assumption
log 36). -/
def Obligations.WeighingEndsAtPe : Prop :=
  (∀ (a b : Bool) (s : State) (r : Record), s.beltClear → s.onlyRecord r s.loader.config.pe →
     s.loader.config.ordered = true → s.loader.config.x ≤ 4095 → r.awaits = .pe → r.phase = .measuring →
     (r.weighing.count < s.loader.config.minSamples →
       exec (.forwardStep a b) s = .next
         { s.stepped a b with
           table :=
             { s.table with records := [{ r with awaits := .d, phase := .faulted, pass := .noWeight }] } }) ∧
     ∀ (low high : Nat) (settled : Bool), s.loader.config.minSamples ≤ r.weighing.count → 0 < r.weighing.count →
       r.weighing.min = some low → r.weighing.max = some high → r.terms = none →
       settled = decide (high - low ≤ s.loader.config.settleBand) →
       exec (.forwardStep a b) s = .next
         { s.stepped a b with
           table :=
             { s.table with
               records :=
                 [{ r with
                    awaits := .d
                    phase := .faulted
                    waiting := false
                    rating := some (.fault .noJob)
                    weighing :=
                      { r.weighing with
                        settled := settled
                        weight :=
                          some (if settled then (r.weighing.sum + r.weighing.count - 1) / r.weighing.count
                            else high) } }] } }) ∧
  (∀ (a b : Bool) (s : State) (r q : Record) (t : JobTerms) (l low high weight : Nat) (settled : Bool), s.beltClear →
    s.onlyRecord r s.loader.config.pe → s.loader.config.ordered = true → s.loader.config.x ≤ 4095 → r.awaits = .pe →
    r.phase = .measuring → s.loader.config.minSamples ≤ r.weighing.count → 0 < r.weighing.count →
    r.weighing.min = some low → r.weighing.max = some high → r.terms = some t → r.length = some l →
    settled = decide (high - low ≤ s.loader.config.settleBand) →
    weight = (if settled then (r.weighing.sum + r.weighing.count - 1) / r.weighing.count else high) →
    q = { r with
          awaits := .d, phase := .weighed, waiting := false
          weighing := { r.weighing with settled := settled, weight := some weight } } →
    (s.tariff.slotA.state ≠ .active → s.tariff.slotB.state ≠ .active →
      exec (.forwardStep a b) s = .next
        { s.stepped a b with
          table := { s.table with records := [{ q with phase := .faulted, rating := some (.fault .noTariff) }] } }) ∧
    ∀ (id : SlotId) (walk : WalkStage → Option Format → Walk), s.tariff.active = some id →
      (∀ stage format, walk stage format =
        { record := some r.key, slot := id, image := (s.tariff.slot id).image, cls := t.cls, zone := t.zone,
          length := l, thickness := r.thickness, stage := stage, format := format, entry := none, noFill := false }) →
      (s.rater.limits = none ∨ (∃ m, s.rater.limits = some m ∧ m.image ≠ (s.tariff.slot id).image) →
        exec (.forwardStep a b) s = .next
          { s.stepped a b with
            table := { s.table with records := [{ q with phase := .rating }] }
            rater := { s.rater with walk := some (walk .header none) }
            tariff := { s.tariff with marker := some id, port := some .walkRead } }) ∧
      ∀ (m : Limits) (mm : Nat), s.rater.limits = some m → m.image = (s.tariff.slot id).image →
        mm = l / s.loader.config.cpm →
        ((m.lengthStandard < mm ∨ m.thickStandard < r.thickness) → (m.lengthBulky < mm ∨ m.thickBulky < r.thickness) →
          (m.lengthOversize < mm ∨ m.thickOversize < r.thickness) →
          exec (.forwardStep a b) s = .next
            { s.stepped a b with
              table :=
                { s.table with records := [{ q with phase := .faulted, rating := some (.fault .formatRejected) }] } }) ∧
        ∀ (f : Format) (lines : List RateLine),
          ((f = .standard ∧ mm ≤ m.lengthStandard ∧ r.thickness ≤ m.thickStandard) ∨
            (f = .bulky ∧ (m.lengthStandard < mm ∨ m.thickStandard < r.thickness) ∧ mm ≤ m.lengthBulky ∧
              r.thickness ≤ m.thickBulky) ∨
            (f = .oversize ∧ (m.lengthStandard < mm ∨ m.thickStandard < r.thickness) ∧
              (m.lengthBulky < mm ∨ m.thickBulky < r.thickness) ∧ mm ≤ m.lengthOversize ∧
              r.thickness ≤ m.thickOversize)) →
          s.rater.cache[(t.cls + t.zone) % 8]? = some lines →
          ((∀ x ∈ lines, x.cls ≠ t.cls ∨ x.zone ≠ t.zone) →
            exec (.forwardStep a b) s = .next
              { s.stepped a b with
                table := { s.table with records := [{ q with phase := .rating }] }
                rater := { s.rater with walk := some (walk .directory (some f)) }
                tariff := { s.tariff with marker := some id, port := some .walkRead } }) ∧
          ∀ (front : List RateLine) (line : RateLine) (back : List RateLine) (result : RatingResult)
            (phase : MeasurePhase), lines = front ++ line :: back → line.cls = t.cls → line.zone = t.zone →
            (∀ x ∈ front ++ back, x.cls ≠ t.cls ∨ x.zone ≠ t.zone) → r.foreign = none →
            result =
              computeRating line.image s.loader.config.valueCap line.entry line.steps f t.service weight
                r.weighing.overFlag →
            ((phase = .rated ∧ ∃ part, result = .rated part) ∨ (phase = .faulted ∧ ∃ why, result = .fault why)) →
            exec (.forwardStep a b) s = .next
              { s.stepped a b with
                table := { s.table with records := [{ q with phase := phase, rating := some result }] }
                rater :=
                  { s.rater with cache := s.rater.cache.set ((t.cls + t.zone) % 8) (line :: (front ++ back)) } }) ∧
  ∀ (raw : BitVec 24) (s : State) (r : Record) (l : Nat), s.loader.powered = true → s.loader.mode = some .running →
    s.onlyRecord r s.loader.config.pe → r.awaits = .pe → r.phase = .measuring → r.length = some l →
    l + s.loader.config.ps = s.loader.config.pe → s.loader.config.ps < s.loader.config.pe →
    s.loader.config.pe ≤ 4095 →
    (∀ (a b : Bool) (rest : List Instr), s.pending = .forwardStep a b :: rest →
      exec (.sampleArrival raw) s = .next { s with free := s.free + 1 } ∨
        exec (.sampleArrival raw) s = .next
          { s with
            free := s.free + 1
            table :=
              { s.table with
                records :=
                  [{ r with
                     weighing :=
                       accumulate ((raw.toInt - s.wu.zero) * (s.loader.config.gain : Int) / 65536) r.weighing }] } }) ∧
    ((∀ a b, s.pending.head? ≠ some (.forwardStep a b)) → exec (.sampleArrival raw) s = .next s)

/-! ### Decision, commit, print, exit -/

/-- The decision at D claims a RATED record of an eligible station with funds and room (06 R107, 07 R139). -/
def Obligations.DecisionClaimsThePiece : Prop :=
  ∀ (a b : Bool) (s : State) (r : Record) (p : RatingPart), s.beltClear → s.onlyRecord r s.loader.config.d →
    s.loader.config.ordered = true → s.loader.config.x ≤ 4095 → r.awaits = .d → r.claim = .opened →
    r.phase = .rated → r.rating = some (.rated p) → s.inhibit.isEmpty = true →
    p.value + s.au.reserved + s.au.committed ≤ s.au.registers.descending →
    s.au.registers.count + s.au.outstanding < 999999999 → s.lc.queue.length < 8 →
    exec (.forwardStep a b) s = .next
      { s.stepped a b with
        table :=
          { s.table with records := [{ r with awaits := .k, claim := .claiming, reserved := some p.value }] }
        au := { s.au with reserved := s.au.reserved + p.value, outstanding := s.au.outstanding + 1 }
        lc :=
          { s.lc with
            queue := insertEntry
              { newEntry .claim 15#4
                  (beBytes 3 r.key.toNat ++ beBytes 2 (r.weighing.weight.getD 0) ++
                    [BitVec.ofNat 8 p.step, BitVec.ofNat 8 p.image] ++ beBytes 3 p.value) with
                record := some r.key } s.lc.queue } }

/-- The decision at D passes every other OPEN record with the first reason of 06 Table 6-3 that applies (06 R108, 05
R96); a FOREIGN record is not decided (06 R109). A record still RATING at D is late: its walk goes on detached, an OPEN
one ends, and a FOREIGN one keeps its claim (05 R96). -/
def Obligations.DecisionPassesThePiece : Prop :=
  (∀ (a b : Bool) (s : State) (r : Record), s.beltClear → s.onlyRecord r s.loader.config.d →
     s.loader.config.ordered = true → s.loader.config.x ≤ 4095 → r.awaits = .d →
     (∀ why : PassReason, r.claim = .opened →
       ((r.phase = .faulted ∧ why = (if r.pass = .tailgate then .tailgate
             else if r.pass = .noWeight then .noWeight else .rateFault)) ∨
         ∃ p, r.phase = .rated ∧ r.rating = some (.rated p) ∧
           ((s.inhibit.isEmpty = false ∧ why = .inhibited) ∨
             (s.inhibit.isEmpty = true ∧ why = .funds ∧
               (s.au.registers.descending - s.au.reserved - s.au.committed < p.value ∨
                 999999999 ≤ s.au.registers.count + s.au.outstanding)) ∨
             (s.inhibit.isEmpty = true ∧ why = .queueFull ∧ 8 ≤ s.lc.queue.length ∧
               p.value ≤ s.au.registers.descending - s.au.reserved - s.au.committed ∧
               s.au.registers.count + s.au.outstanding < 999999999))) →
       exec (.forwardStep a b) s = .next
         { s.stepped a b with
           table := { s.table with records := [{ r with awaits := .k, claim := .ended, pass := why }] } }) ∧
     (r.claim = .opened → r.phase = .weighed →
       exec (.forwardStep a b) s = .next
         { s.stepped a b with
           table :=
             { s.table with
               records := [{ r with awaits := .k, claim := .ended, pass := .lateRate, waiting := false }] } }) ∧
     (r.claim = .foreign → r.phase = .rated →
       exec (.forwardStep a b) s = .next
         { s.stepped a b with table := { s.table with records := [{ r with awaits := .k }] } })) ∧
  ∀ (a b : Bool) (s : State) (r : Record) (w : Walk), s.loader.powered = true → s.loader.mode = some .running →
    s.lpu.entryBlocked = false → s.lpu.exitBlocked = false → s.lpu.clearance = none → s.wu.guardPos = none →
    s.onlyRecord r s.loader.config.d → s.loader.config.ordered = true → s.loader.config.x ≤ 4095 → r.awaits = .d →
    r.phase = .rating → s.rater.walk = some w → w.record = some r.key → s.tariff.port = some .walkRead →
    (r.claim = .opened →
      exec (.forwardStep a b) s = .next
        { s.stepped a b with
          table :=
            { s.table with records := [{ r with awaits := .k, phase := .weighed, claim := .ended, pass := .lateRate }] }
          rater := { s.rater with walk := some { w with record := none } } }) ∧
    (r.claim = .foreign →
      exec (.forwardStep a b) s = .next
        { s.stepped a b with
          table := { s.table with records := [{ r with awaits := .k, phase := .weighed, pass := .lateRate }] }
          rater := { s.rater with walk := some { w with record := none } } })

/-- The commit at K (06 R113, 07 R141, R142): a CLAIMED record's debit is queued and, the writer being idle, its write
starts; a CLAIMING record, whose CLAIM waits alone in the queue, is ended with LATE_CLAIM and its CLAIM withdrawn. -/
def Obligations.CommitAtKQueuesTheDebit : Prop :=
  ∀ (a b : Bool) (s : State) (r : Record) (amount : Nat), s.beltClear → s.onlyRecord r s.loader.config.k →
    s.loader.config.ordered = true → s.loader.config.x ≤ 4095 → s.loader.config.k < s.loader.config.s →
    r.awaits = .k → r.reserved = some amount →
    (r.claim = .claimed → s.au.write = none → s.au.queue = [] →
      exec (.forwardStep a b) s = .next
        { s.stepped a b with
          table := { s.table with records := [{ r with awaits := .s, claim := .debitWait }] }
          au :=
            { s.au with
              reserved := s.au.reserved - amount
              committed := s.au.committed + amount
              write := some (.debit { key := r.key, amount := amount }
                { s.au.registers with
                  descending := s.au.registers.descending - amount
                  ascending := s.au.registers.ascending + amount
                  count := s.au.registers.count + 1
                  generation := (s.au.registers.generation + 1) % 256 }) } }) ∧
    (r.claim = .claimed → ∀ w, s.au.write = some w →
      exec (.forwardStep a b) s = .next
        { s.stepped a b with
          table := { s.table with records := [{ r with awaits := .s, claim := .debitWait }] }
          au :=
            { s.au with
              reserved := s.au.reserved - amount
              committed := s.au.committed + amount
              queue := s.au.queue ++ [{ key := r.key, amount := amount }] } }) ∧
    (r.claim = .claiming → ∀ e, s.lc.queue = [e] → e.kind = .claim → e.record = some r.key → e.onMedium = false →
      e.withdrawn = false →
      exec (.forwardStep a b) s = .next
        { s.stepped a b with
          table := { s.table with records := [{ r with awaits := .s, claim := .ended, pass := .lateClaim }] }
          au := { s.au with reserved := s.au.reserved - amount, outstanding := s.au.outstanding - 1 }
          lc := { s.lc with queue := [] } })

/-- The S arrival (08 R157, R160, R162, 07 R144): an ARMED record becomes the print owner with its content, and its
column 0, due on the same step, is fired or dropped as PH_RDY stands (assumption log 11); a record still in DEBIT_WAIT
is SPOILED with LATE_DEBIT. An older record that is PRINTING then is overrun and ends DEFECTIVE (08 R161). -/
def Obligations.PrintStartsAtS : Prop :=
  (∀ (a b : Bool) (s : State) (r : Record), s.beltClear → s.onlyRecord r s.loader.config.s →
     s.loader.config.ordered = true → s.loader.config.x ≤ 4095 → 2 ≤ s.loader.config.width →
     1 ≤ s.loader.config.pitch → r.awaits = .s → s.ip.owner = none →
     (∀ (p : RatingPart) (n : Nat) (d : StationDate) (content : PrintContent), r.claim = .armed →
       r.rating = some (.rated p) → r.pieceNumber = some n → s.tariff.date = some d →
       content =
         { value := p.value, frameSel := p.frameSel, number := n, day := d.day, month := d.month, year := d.year,
           serial := s.loader.config.serial } →
       exec (.forwardStep a b) s = .next
         { s.stepped a b with
           table :=
             { s.table with
               records :=
                 [{ r with
                    awaits := .column 1, claim := .printing,
                    print := some { next := 1, dropped := if a then 0 else 1 } }] }
           ip :=
             { owner := some { key := r.key, content := content }
               fired := if a then [composeColumn s.loader.config content 0] else [] }
           pins := { s.pins with phRdy := b, phRdyAgain := b } }) ∧
     (r.claim = .debitWait →
       exec (.forwardStep a b) s = .next
         { s.stepped a b with
           table :=
             { s.table with
               records :=
                 [{ r with awaits := .column 1, outcome := some .spoiled, pass := .lateDebit }] } })) ∧
  ∀ (a b : Bool) (s : State) (q r : Record) (o : PrintOwner) (g : PrintProgress) (p : RatingPart) (n : Nat)
    (d : StationDate) (content : PrintContent) (start : Pos), s.beltClear → s.table.records = [q, r] →
    orderKey (s.lpu.linePos + 1#24) q.key < orderKey (s.lpu.linePos + 1#24) r.key → r.presence = .present →
    r.beforeReset = false → r.sightPos = some start →
    s.lpu.linePos + 1#24 = start + BitVec.ofNat 24 s.loader.config.s →
    targetDue s.loader.config (s.lpu.linePos + 1#24) q = false → s.loader.config.ordered = true →
    s.loader.config.x ≤ 4095 → 2 ≤ s.loader.config.width → 1 ≤ s.loader.config.pitch → r.awaits = .s →
    s.ip.owner = some o → o.key = q.key → q.claim = .printing → q.print = some g → r.claim = .armed →
    r.rating = some (.rated p) → r.pieceNumber = some n → s.tariff.date = some d →
    content =
      { value := p.value, frameSel := p.frameSel, number := n, day := d.day, month := d.month, year := d.year,
        serial := s.loader.config.serial } →
    exec (.forwardStep a b) s = .next
      { s.stepped a b with
        table :=
          { s.table with
            records :=
              [{ q with
                 claim := .ended, outcome := some .defective
                 print :=
                   some
                     { next := s.loader.config.width, dropped := g.dropped + (s.loader.config.width - g.next) } },
               { r with
                 awaits := .column 1, claim := .printing,
                 print := some { next := 1, dropped := if a then 0 else 1 } }] }
        ip :=
          { owner := some { key := r.key, content := content }
            fired := if a then [composeColumn s.loader.config content 0] else [] }
        pins := { s.pins with phRdy := b, phRdyAgain := b } }

/-- The last column of the print owner (08 R162, R163): fired or dropped, and the record is ENDED, PRINTED when none was
dropped and DEFECTIVE otherwise. -/
def Obligations.LastColumnEndsThePrint : Prop :=
  ∀ (a b : Bool) (s : State) (r : Record) (o : PrintOwner) (dropped : Nat), s.beltClear →
    s.onlyRecord r (s.loader.config.s + (s.loader.config.width - 1) * s.loader.config.pitch) →
    s.loader.config.ordered = true → s.loader.config.x ≤ 4095 → 1 ≤ s.loader.config.width →
    r.awaits = .column (s.loader.config.width - 1) → s.ip.owner = some o → o.key = r.key → r.claim = .printing →
    r.print = some { next := s.loader.config.width - 1, dropped := dropped } →
    exec (.forwardStep a b) s = .next
      { s.stepped a b with
        table :=
          { s.table with
            records :=
              [{ r with
                 awaits := .window
                 claim := .ended
                 print := some { next := s.loader.config.width, dropped := if a then dropped else dropped + 1 }
                 outcome := some (if a = true ∧ dropped = 0 then .printed else .defective) }] }
        ip :=
          { owner := none
            fired := if a then [composeColumn s.loader.config o.content (s.loader.config.width - 1)] else [] }
        pins := { s.pins with phRdy := b, phRdyAgain := b } }

/-- The exit arrival (01 R16, 02 R31, R32): a FOREIGN record is removed without a report; a debited record's two report
frames are queued when there is room, and otherwise it becomes EXITED; the tail reports a record that nobody franked as
UNFRANKED. LOST is set when the exit cell never saw the piece. -/
def Obligations.ExitRemovesOrReports : Prop :=
  ∀ (a b : Bool) (s : State) (r : Record), s.beltClear → s.table.records = [r] → r.presence = .present →
    r.beforeReset = false → r.awaits = .exit → r.exitTarget = some (s.lpu.linePos + 1#24) → s.lpu.entryOwner = none →
    (r.claim = .foreign → r.pieceNumber = none →
      exec (.forwardStep a b) s = .next { s.stepped a b with table := { s.table with records := [] } }) ∧
    (∀ q : Record, r.claim = .ended → r.pieceNumber ≠ none →
      q = { r with awaits := .beyond, lost := r.lost || !r.exitSeen, windowOpen := false } →
      (s.lc.queue.length + 2 ≤ 8 →
        exec (.forwardStep a b) s = .next
          { s.stepped a b with
            table := { s.table with records := [] }
            lc :=
              { s.lc with
                queue := insertEntry (newEntry .pieceReport 0#4 (reportPart2 q))
                  (insertEntry (newEntry .pieceReport 0#4 (reportPart1 q)) s.lc.queue) } }) ∧
      (8 < s.lc.queue.length + 2 →
        exec (.forwardStep a b) s = .next
          { s.stepped a b with table := { s.table with records := [{ q with presence := .exited }] } })) ∧
    (∀ q : Record, r.claim = .ended → r.pieceNumber = none → s.lc.queue.length + 2 ≤ 8 →
      q = { r with awaits := .beyond, lost := r.lost || !r.exitSeen, windowOpen := false,
                   outcome := some .unfranked } →
      ((∀ u ∈ s.cc.peers, u.station ≤ s.loader.config.station) →
        exec (.forwardStep a b) s = .next
          { s.stepped a b with
            table := { s.table with records := [] }
            lc :=
              { s.lc with
                queue := insertEntry (newEntry .pieceReport 0#4 (reportPart2 q))
                  (insertEntry (newEntry .pieceReport 0#4 (reportPart1 q)) s.lc.queue) } }) ∧
      ((∃ u ∈ s.cc.peers, s.loader.config.station < u.station) →
        exec (.forwardStep a b) s = .next { s.stepped a b with table := { s.table with records := [] } }))

/-! ### Rating -/

/-- A walk read that ends with a read error ends its walk (05 R91, R92; 04 R64 for the walk marker): the record it is
attached to is FAULTED with READ_ERROR; a detached walk touches no record. Nothing else waits for the port or for the
RE. -/
def Obligations.WalkReadErrorEndsTheWalk : Prop :=
  ∀ (c : Instr) (stage : WalkStage) (s : State) (w : Walk),
    ((c = .headerReadComplete true ∧ stage = .header) ∨ (c = .directoryEntryReadComplete true ∧ stage = .directory) ∨
      (c = .stepTableReadComplete true ∧ stage = .steps)) →
    s.started = true → s.tariff.port = some .walkRead → s.rater.walk = some w → w.stage = stage →
    s.tariff.writes = [] → s.tariff.load = none →
    (∀ r, s.table.records = [r] → r.waiting = false → w.record = some r.key →
      exec c s = .next
        { s with
          tariff := { s.tariff with port := none, marker := none }
          rater := { s.rater with walk := none }
          table :=
            { s.table with records := [{ r with rating := some (.fault .readError), phase := .faulted }] } }) ∧
    ((∀ r ∈ s.table.records, r.waiting = false) → w.record = none →
      exec c s = .next
        { s with
          tariff := { s.tariff with port := none, marker := none }
          rater := { s.rater with walk := none } })

/-- The header read of a walk (05 R85, R91): it fills the limit copy; with a format that some pair of limits admits and
no line to be found, the walk goes on to its directory entry; else the record is FAULTED with FORMAT_REJECTED. -/
def Obligations.HeaderReadClassifiesThePiece : Prop :=
  ∀ (s : State) (w : Walk) (m : Limits) (mm : Nat), s.started = true → s.tariff.port = some .walkRead →
    s.rater.walk = some w → w.stage = .header → m = parseLimits (memReadRun 20 0 (s.tariff.area w.slot)) →
    mm = w.length / s.loader.config.cpm →
    (∀ f : Format, ((s.tariff.slot w.slot).state ≠ .active ∨ lookup s.rater.cache w.cls w.zone = none) →
      ((f = .standard ∧ mm ≤ m.lengthStandard ∧ w.thickness ≤ m.thickStandard) ∨
        (f = .bulky ∧ (m.lengthStandard < mm ∨ m.thickStandard < w.thickness) ∧ mm ≤ m.lengthBulky ∧
          w.thickness ≤ m.thickBulky) ∨
        (f = .oversize ∧ (m.lengthStandard < mm ∨ m.thickStandard < w.thickness) ∧
          (m.lengthBulky < mm ∨ m.thickBulky < w.thickness) ∧ mm ≤ m.lengthOversize ∧
          w.thickness ≤ m.thickOversize)) →
      exec (.headerReadComplete false) s = .next
        { s with
          rater :=
            { s.rater with limits := some m, walk := some { w with format := some f, stage := .directory } } }) ∧
    ∀ r, s.table.records = [r] → r.waiting = false → w.record = some r.key → s.tariff.writes = [] →
      s.tariff.load = none → (m.lengthStandard < mm ∨ m.thickStandard < w.thickness) →
      (m.lengthBulky < mm ∨ m.thickBulky < w.thickness) →
      (m.lengthOversize < mm ∨ m.thickOversize < w.thickness) →
      exec (.headerReadComplete false) s = .next
        { s with
          tariff := { s.tariff with port := none, marker := none }
          rater := { s.rater with limits := some m, walk := none }
          table :=
            { s.table with records := [{ r with rating := some (.fault .formatRejected), phase := .faulted }] } }

/-- The directory entry read of a walk (05 R91, R98): a present entry leads to its step table, an absent one faults the
record with NO_ENTRY. -/
def Obligations.DirectoryReadFindsTheEntry : Prop :=
  ∀ (s : State) (w : Walk) (e : DirEntry), s.started = true → s.tariff.port = some .walkRead →
    s.rater.walk = some w → w.stage = .directory →
    e = parseEntry (memReadRun 16 (20 + 16 * (16 * w.cls + w.zone)) (s.tariff.area w.slot)) →
    (e.present = true →
      exec (.directoryEntryReadComplete false) s = .next
        { s with rater := { s.rater with walk := some { w with entry := some e, stage := .steps } } }) ∧
    ∀ r, s.table.records = [r] → r.waiting = false → w.record = some r.key → s.tariff.writes = [] →
      s.tariff.load = none → e.present = false →
      exec (.directoryEntryReadComplete false) s = .next
        { s with
          tariff := { s.tariff with port := none, marker := none }
          rater := { s.rater with walk := none }
          table :=
            { s.table with records := [{ r with rating := some (.fault .noEntry), phase := .faulted }] } }

/-- The step table read ends the walk with a rating (05 R88, R92, R98 to R100): the first used step whose bound the
weight does not exceed gives the base, the postage value is the amount in tariff units divided by ten and rounded
upward, and the line is cached while the slot is ACTIVE and no LINE RESET has come. The faults of the stages come in
their order: FORMAT_BARRED, OVERWEIGHT, OVER_LAST_STEP, ZERO_VALUE, OVER_CAP (05 R98 to R101), with the same fill. -/
def Obligations.StepTableReadRatesThePiece : Prop :=
  (∀ (s : State) (w : Walk) (e : DirEntry) (f : Format) (steps : List Step) (r : Record) (t : JobTerms)
     (weight value : Nat), s.started = true → s.tariff.port = some .walkRead → s.rater.walk = some w →
     w.stage = .steps → w.entry = some e → w.format = some f → e.present = true → e.permits f = true →
     steps = parseSteps (memReadRun 104 (2068 + 104 * e.table) (s.tariff.area w.slot)) →
     s.table.records = [r] → r.waiting = false → w.record = some r.key → r.terms = some t → r.foreign = none →
     r.weighing.weight = some weight → r.weighing.overFlag = false → s.tariff.writes = [] → s.tariff.load = none →
     ∀ (front : List Step) (chosen : Step) (back : List Step), steps = front ++ chosen :: back →
       (∀ x ∈ front, x.bound < weight) → weight ≤ chosen.bound →
       value = (amountOf e f t.service chosen.base + 9) / 10 → 1 ≤ value → value ≤ s.loader.config.valueCap →
       exec (.stepTableReadComplete false) s = .next
         { s with
           tariff := { s.tariff with port := none, marker := none }
           rater :=
             { s.rater with
               walk := none
               cache :=
                 if w.noFill = false ∧ (s.tariff.slot w.slot).state = .active then
                   fill { image := w.image, cls := w.cls, zone := w.zone, entry := e, steps := steps } s.rater.cache
                 else s.rater.cache }
           table :=
             { s.table with
               records :=
                 [{ r with
                    phase := .rated
                    rating :=
                      some (.rated
                        { image := w.image, step := front.length, value := value, frameSel := e.frameSel }) }] } }) ∧
  ∀ (s : State) (w : Walk) (e : DirEntry) (f : Format) (steps : List Step) (r : Record) (t : JobTerms)
    (weight : Nat) (why : RatingFault), s.started = true → s.tariff.port = some .walkRead → s.rater.walk = some w →
    w.stage = .steps → w.entry = some e → w.format = some f → e.present = true →
    steps = parseSteps (memReadRun 104 (2068 + 104 * e.table) (s.tariff.area w.slot)) →
    s.table.records = [r] → r.waiting = false → w.record = some r.key → r.terms = some t →
    r.weighing.weight = some weight → s.tariff.writes = [] → s.tariff.load = none →
    ((why = .formatBarred ∧ e.permits f = false) ∨
      (why = .overweight ∧ e.permits f = true ∧ r.weighing.overFlag = true) ∨
      (e.permits f = true ∧ r.weighing.overFlag = false ∧
        ((why = .overLastStep ∧ ∀ x ∈ steps, x.bound < weight) ∨
          ∃ (front : List Step) (chosen : Step) (back : List Step) (value : Nat), steps = front ++ chosen :: back ∧
            (∀ x ∈ front, x.bound < weight) ∧ weight ≤ chosen.bound ∧
            value = (amountOf e f t.service chosen.base + 9) / 10 ∧
            ((why = .zeroValue ∧ value = 0) ∨ (why = .overCap ∧ 1 ≤ value ∧ s.loader.config.valueCap < value))))) →
    exec (.stepTableReadComplete false) s = .next
      { s with
        tariff := { s.tariff with port := none, marker := none }
        rater :=
          { s.rater with
            walk := none
            cache :=
              if w.noFill = false ∧ (s.tariff.slot w.slot).state = .active then
                fill { image := w.image, cls := w.cls, zone := w.zone, entry := e, steps := steps } s.rater.cache
              else s.rater.cache }
        table := { s.table with records := [{ r with phase := .faulted, rating := some (.fault why) }] } }

/-- Stages 3 to 5 of the rating computation (05 R99), with the bounds that the manual gives for the zone amount and for
the amount before the minimum charge. -/
def Obligations.AmountFollowsItsStages : Prop :=
  ∀ (e : DirEntry) (format : Format) (service : Service) (base : Nat),
    ∃ z surcharge fee : Nat, amountOf e format service base = max (z + surcharge + fee) e.minimum ∧
      base * e.factor ≤ 1000 * z ∧ 1000 * z < base * e.factor + 1000 ∧ (base = 0 → z = 0) ∧
      (base = 1 → e.factor = 1 → z = 1) ∧
      surcharge = (match format with | .standard => 0 | .bulky => e.bulkyFee | .oversize => e.oversizeFee) ∧
      fee = (match service with
        | .none => 0 | .tracked => e.trackedFee | .signed => e.signedFee | .both => e.trackedFee + e.signedFee) ∧
      (base ≤ 999999 → e.factor ≤ 4000 → base * e.factor ≤ 3999996000 ∧ z ≤ 3999996) ∧
      (base ≤ 999999 → e.factor ≤ 4000 → e.bulkyFee ≤ 65535 → e.oversizeFee ≤ 65535 → e.trackedFee ≤ 65535 →
        e.signedFee ≤ 65535 → z + surcharge + fee ≤ 4196601)

/-- JOB (05 R81): RANGE before FULL; an empty list takes the job and clears NO_JOB; a job of the same effective key is
replaced in its place, in force if the replaced one was; another takes its place in effective-key order, counted from
the job in force or, with none, from the reference key held (05 R80). -/
def Obligations.JobsAreAccepted : Prop :=
  ∀ (s : State) (dst : Node) (p : List Byte) (j : Job), s.hears dst → 7 ≤ p.length → p.length ≤ 12 →
    j.number = fieldAt 0 1 p → j.cls = fieldAt 1 1 p → j.zone = fieldAt 2 1 p →
    j.key = BitVec.ofNat 24 (fieldAt 4 3 p) → j.inForce = false →
    (∀ reason : Byte, ((reason = 2#8 ∧ (j.number = 0 ∨ 7 < j.cls ∨ 15 < j.zone ∨ 3 < fieldAt 3 1 p)) ∨
        (reason = 5#8 ∧ j.number ≠ 0 ∧ j.cls ≤ 7 ∧ j.zone ≤ 15 ∧ fieldAt 3 1 p ≤ 3 ∧ 3 ≤ s.rater.jobs.length)) →
      exec (.job 0#4 dst (goodBody .job 0#4 dst p)) s = .next
        { s.accepting with
          lc :=
            { s.accepting.lc with
              queue :=
                if s.lc.queue.length < 8 then
                  insertEntry (newEntry .refusal 0#4 [5#8, reason, 0#8, 0#8, 0#8]) s.lc.queue
                else s.lc.queue } }) ∧
    (j.number ≠ 0 → j.cls ≤ 7 → j.zone ≤ 15 →
      ((fieldAt 3 1 p = 0 ∧ j.service = .none) ∨ (fieldAt 3 1 p = 1 ∧ j.service = .tracked) ∨
        (fieldAt 3 1 p = 2 ∧ j.service = .signed) ∨ (fieldAt 3 1 p = 3 ∧ j.service = .both)) →
      (s.rater.jobs = [] →
        exec (.job 0#4 dst (goodBody .job 0#4 dst p)) s = .next
          { s.accepting with
            rater := { s.rater with jobs := [j], ref := j.key }, inhibit := { s.inhibit with noJob := false } }) ∧
      (∀ x, s.rater.jobs = [x] → x.key = j.key →
        exec (.job 0#4 dst (goodBody .job 0#4 dst p)) s = .next
          { s.accepting with rater := { s.rater with jobs := [{ j with inForce := x.inForce }] } }) ∧
      (∀ x, s.rater.jobs = [x] → x.key ≠ j.key → x.inForce = true →
        exec (.job 0#4 dst (goodBody .job 0#4 dst p)) s = .next
          { s.accepting with
            rater := { s.rater with jobs := if precedes x.key j.key then [x, j] else [j, x], ref := x.key } }) ∧
      (∀ x, s.rater.jobs = [x] → x.key ≠ j.key → x.inForce = false →
        exec (.job 0#4 dst (goodBody .job 0#4 dst p)) s = .next
          { s.accepting with
            rater :=
              { s.rater with
                jobs := if orderKey s.rater.ref j.key < orderKey s.rater.ref x.key then [j, x] else [x, j] } }) ∧
      ∀ x y, s.rater.jobs = [x, y] →
        (x.key = j.key → y.key ≠ j.key →
          exec (.job 0#4 dst (goodBody .job 0#4 dst p)) s = .next
            { s.accepting with rater := { s.rater with jobs := [{ j with inForce := x.inForce }, y] } }) ∧
        (x.key ≠ j.key → y.key = j.key →
          exec (.job 0#4 dst (goodBody .job 0#4 dst p)) s = .next
            { s.accepting with rater := { s.rater with jobs := [x, { j with inForce := y.inForce }] } }) ∧
        ∀ (ref : Pos) (list : List Job), x.key ≠ j.key → y.key ≠ j.key →
          ((x.inForce = true ∧ ref = x.key) ∨ (x.inForce = false ∧ y.inForce = true ∧ ref = y.key) ∨
            (x.inForce = false ∧ y.inForce = false ∧ ref = s.rater.ref)) →
          ((orderKey ref j.key < orderKey ref x.key ∧ list = [j, x, y]) ∨
            (orderKey ref x.key < orderKey ref j.key ∧ orderKey ref j.key < orderKey ref y.key ∧ list = [x, j, y]) ∨
            (orderKey ref x.key < orderKey ref j.key ∧ orderKey ref y.key < orderKey ref j.key ∧ list = [x, y, j])) →
          exec (.job 0#4 dst (goodBody .job 0#4 dst p)) s = .next
            { s.accepting with rater := { s.rater with jobs := list, ref := ref } })

/-! ### The tariff memory -/

/-- The completions of a status write, an erase and a program (04 R62, R63, R67, R69), each with nothing else waiting:
the record, or a record that fails its check; an area of erased bytes but for those left wrong; the entry's bytes but
for those left wrong, and every other byte of the area as it was. The value of an erased byte, FF, is the model's
choice (assumption log 4). -/
def Obligations.PortCompletionsWriteTheMemory : Prop :=
  (∀ (s : State) (id : SlotId) (q : SlotRecord) (wrong : Bool), s.started = true → s.rater.walk = none →
    s.tariff.writes = [] → s.tariff.load = none → s.tariff.port = some (.statusWrite id q false) →
    exec (.statusWriteComplete wrong) s = .next
      { s with
        tariff := { s.tariff.setRecord id (if wrong then none else some q) with port := none } }) ∧
  (∀ (s : State) (id : SlotId) (wrong : List Host.Cell), s.started = true → s.rater.walk = none →
    s.tariff.writes = [] → s.tariff.buffer = [] → s.tariff.port = some (.erase id true) →
    s.tariff.load = some { slot := id, erase := .running, check := none } →
    ∃ area : Memory, exec (.eraseComplete wrong) s = .next
        { s with
          tariff :=
            { s.tariff.setArea id area with
              port := none, load := some { slot := id, erase := .done, check := none } } } ∧
      (wrong = [] → area = []) ∧ ∀ a, (∀ x ∈ wrong, x.1 ≠ a) → memRead area a = 0xFF#8) ∧
  ∀ (s : State) (e : BufferEntry) (wrong : List Host.Cell), s.started = true → s.memorySound = true →
    s.rater.walk = none → s.tariff.writes = [] → s.tariff.buffer = [e] → e.started = true →
    s.tariff.port = some .program → s.tariff.load = some { slot := e.slot, erase := .done, check := none } →
    ∃ area : Memory, exec (.programComplete wrong) s = .next
        { s with tariff := { s.tariff.setArea e.slot area with port := none, buffer := [] } } ∧
      (∀ (i : Nat) (b : Byte), e.data[i]? = some b → (∀ x ∈ wrong, x.1 ≠ e.offset + i) →
        memRead area (e.offset + i) = b) ∧
      ∀ a, (a < e.offset ∨ e.offset + e.data.length ≤ a) → memRead area a = memRead (s.tariff.area e.slot) a

/-- The check reads of a load (04 R71 to R73, assumption log 13): before the last byte the run goes on; at its end the
slot is INVALID with CRC after a read error or a CRC that does not agree, INVALID with STRUCTURE after a failed
structure check, and READY otherwise, and the write of its status record starts. No date is held, so that changeover is
not evaluated. What the two checks test is said byte by byte (04 R71, R72, 11 Tables 11-5, 11-6). -/
def Obligations.CheckReadDecidesTheSlot : Prop :=
  (∀ (s : State) (id : SlotId) (c : Check) (count : Nat) (error : Bool) (slot : Slot) (bytes : List Byte),
    s.started = true → s.tariff.port = some (.checkRead true) → s.rater.walk = none → s.tariff.writes = [] →
    s.tariff.buffer = [] → s.tariff.date = none → s.tariff.load = some { slot := id, erase := .done, check := some c } →
    slot = s.tariff.slot id → bytes = memReadRun slot.length 0 (s.tariff.area id) →
    (c.offset + count < slot.length →
      exec (.checkReadComplete count error) s = .next
        { s with
          tariff :=
            { s.tariff with
              load :=
                some
                  { slot := id, erase := .done,
                    check := some { c with offset := c.offset + count, failed := c.failed || error } } } }) ∧
    ∀ (v : SlotState) (why : Option InvalidReason), slot.length ≤ c.offset + count →
      ((v = .invalid ∧ why = some .crc ∧ (c.failed = true ∨ error = true ∨ crcOk slot.length c.crc bytes = false)) ∨
        (v = .invalid ∧ why = some .structural ∧ c.failed = false ∧ error = false ∧
          crcOk slot.length c.crc bytes = true ∧ structureOk slot bytes = false) ∨
        (v = .ready ∧ why = none ∧ c.failed = false ∧ error = false ∧ crcOk slot.length c.crc bytes = true ∧
          structureOk slot bytes = true)) →
      exec (.checkReadComplete count error) s = .next
        { s with
          tariff :=
            { s.tariff.setSlot id { slot with state := v, accepted := 0, invalid := why } with
              load := none
              port :=
                some (.statusWrite id
                  { state := v, image := slot.image, ordinal := slot.ordinal, length := slot.length, invalid := why }
                  false) } }) ∧
  (∀ (length : Nat) (carried : BitVec 32) (bytes : List Byte),
    crcOk length carried bytes = true ↔
      5 ≤ length ∧ crc32 (bytes.take (length - 4)) = carried ∧
        BitVec.ofNat 32 (fieldAt (length - 4) 4 bytes) = carried) ∧
  ∀ (slot : Slot) (bytes : List Byte) (tables : Nat), tables = fieldAt 12 1 bytes → bytes.length = slot.length →
    (structureOk slot bytes = true ↔
      fieldAt 0 1 bytes = slot.image ∧ fieldAt 1 2 bytes = slot.ordinal ∧ 1 ≤ tables ∧ tables ≤ 40 ∧
        slot.length = 2072 + 104 * tables ∧
        (∀ i, i < 128 → 128 ≤ fieldAt (20 + 16 * i) 1 bytes →
          fieldAt (21 + 16 * i) 1 bytes < tables ∧ 1 ≤ fieldAt (22 + 16 * i) 2 bytes ∧
            fieldAt (22 + 16 * i) 2 bytes ≤ 4000 ∧ fieldAt (34 + 16 * i) 1 bytes ≤ 3) ∧
        ∀ j used, j < tables → used = fieldAt (2068 + 104 * j) 1 bytes →
          1 ≤ used ∧ used ≤ 16 ∧
            (∀ i, i < used →
              1 ≤ fieldAt (2076 + 104 * j + 6 * i) 2 bytes ∧ fieldAt (2076 + 104 * j + 6 * i) 2 bytes ≤ 25000 ∧
                fieldAt (2078 + 104 * j + 6 * i) 4 bytes ≤ 999999) ∧
            ∀ i, i + 1 < used →
              fieldAt (2076 + 104 * j + 6 * i) 2 bytes < fieldAt (2082 + 104 * j + 6 * i) 2 bytes)

/-- DATE (04 R75 to R77): RANGE; a date with no candidate; a date at which the only candidate becomes ACTIVE, its status
write starts and the rate line cache is flushed; a date at which the other slot was ACTIVE, or was the candidate
of the earlier date (of equal dates, slot B), and becomes SUPERSEDED. That the status write of the slot left behind goes
first is the model's reading (assumption log 20). -/
def Obligations.DateEvaluatesChangeover : Prop :=
  ∀ (s : State) (dst : Node) (p : List Byte) (d : StationDate), s.hears dst → 5 ≤ p.length → p.length ≤ 12 →
    d = { ordinal := fieldAt 0 2 p, day := fieldAt 2 1 p, month := fieldAt 3 1 p, year := fieldAt 4 1 p } →
    ((d.day = 0 ∨ 31 < d.day ∨ d.month = 0 ∨ 12 < d.month ∨ 99 < d.year) →
      exec (.date 0#4 dst (goodBody .date 0#4 dst p)) s = .next
        { s.accepting with
          lc :=
            { s.accepting.lc with
              queue :=
                if s.lc.queue.length < 8 then
                  insertEntry (newEntry .refusal 0#4 [6#8, 2#8, 0#8, 0#8, 0#8]) s.lc.queue
                else s.lc.queue } }) ∧
    (1 ≤ d.day → d.day ≤ 31 → 1 ≤ d.month → d.month ≤ 12 → d.year ≤ 99 → s.portIdle →
      ((∀ id, (s.tariff.slot id).state ≠ .ready ∨ d.ordinal < (s.tariff.slot id).ordinal) →
        exec (.date 0#4 dst (goodBody .date 0#4 dst p)) s = .next
          { s.accepting with
            tariff := { s.tariff with date := some d }, inhibit := { s.inhibit with noDate := false } }) ∧
      ∀ id : SlotId, (s.tariff.slot id).state = .ready → (s.tariff.slot id).ordinal ≤ d.ordinal →
        (s.tariff.slot id.other).state ≠ .ready → (s.tariff.slot id.other).state ≠ .active →
        exec (.date 0#4 dst (goodBody .date 0#4 dst p)) s = .next
          { s.accepting with
            tariff :=
              { s.tariff.setSlot id { s.tariff.slot id with state := .active } with
                date := some d
                port :=
                  some (.statusWrite id
                    { state := .active, image := (s.tariff.slot id).image, ordinal := (s.tariff.slot id).ordinal,
                      length := (s.tariff.slot id).length, invalid := (s.tariff.slot id).invalid }
                    false) }
            inhibit := { s.inhibit with noDate := false, noTariff := false }
            rater := { s.rater with cache := [[], [], [], [], [], [], [], []], limits := none } }) ∧
    (1 ≤ d.day → d.day ≤ 31 → 1 ≤ d.month → d.month ≤ 12 → d.year ≤ 99 → s.portIdle →
      ∀ (id : SlotId) (o : Slot), (s.tariff.slot id).state = .ready → (s.tariff.slot id).ordinal ≤ d.ordinal →
        o = s.tariff.slot id.other →
        (o.state = .ready → d.ordinal < o.ordinal →
          exec (.date 0#4 dst (goodBody .date 0#4 dst p)) s = .next
            { s.accepting with
              tariff :=
                { s.tariff.setSlot id { s.tariff.slot id with state := .active } with
                  date := some d
                  port :=
                    some (.statusWrite id
                      { state := .active, image := (s.tariff.slot id).image, ordinal := (s.tariff.slot id).ordinal,
                        length := (s.tariff.slot id).length, invalid := (s.tariff.slot id).invalid }
                      false) }
              inhibit := { s.inhibit with noDate := false, noTariff := false }
              rater := { s.rater with cache := [[], [], [], [], [], [], [], []], limits := none } }) ∧
        ((o.state = .active ∨
            (o.state = .ready ∧ o.ordinal ≤ d.ordinal ∧
              (o.ordinal < (s.tariff.slot id).ordinal ∨ (o.ordinal = (s.tariff.slot id).ordinal ∧ id = .a)))) →
          exec (.date 0#4 dst (goodBody .date 0#4 dst p)) s = .next
            { s.accepting with
              tariff :=
                { (s.tariff.setSlot id { s.tariff.slot id with state := .active }).setSlot id.other
                    { o with state := .superseded } with
                  date := some d
                  port :=
                    some (.statusWrite id.other
                      { state := .superseded, image := o.image, ordinal := o.ordinal, length := o.length,
                        invalid := o.invalid }
                      false)
                  writes := [{ slot := id, readyFirst := false }] }
              inhibit := { s.inhibit with noDate := false, noTariff := false }
              rater := { s.rater with cache := [[], [], [], [], [], [], [], []], limits := none } }))

/-- TARIFF OPEN, TARIFF DATA and TARIFF CLOSE when they are accepted (04 R66, R68, R70): the slot is LOADING and its
status write starts; the bytes enter the write buffer and their program starts; the check begins. Their refusals, test
by test (04 R66, R68, R70, 11 Table 11-3). An OPEN accepted while a load runs abandons it (04 R74): what has not
started is discarded, an operation that has started goes on for nobody, and the other slot becomes EMPTY. -/
def Obligations.TariffFramesLoadASlot : Prop :=
  (∀ (s : State) (dst : Node) (p : List Byte) (id : SlotId), s.hears dst → p.length ≤ 12 → s.started = true →
    s.rater.walk = none → s.tariff.port = none → s.tariff.writes = [] →
    fieldAt 0 1 p = (match id with | .a => 0 | .b => 1) →
    (7 ≤ p.length → s.tariff.load = none → fieldAt 1 1 p ≠ 0 → 1 ≤ fieldAt 4 3 p → fieldAt 4 3 p ≤ 65536 →
      (s.tariff.slot id).state ≠ .active → s.tariff.marker = none →
      ((s.tariff.slot id.other).state = .empty ∨ (s.tariff.slot id.other).state = .invalid ∨
        (s.tariff.slot id.other).image ≠ fieldAt 1 1 p) →
      exec (.tariffOpen 0#4 dst (goodBody .tariffOpen 0#4 dst p)) s = .next
        { s.accepting with
          tariff :=
            { s.tariff.setSlot id
                { state := .loading, image := fieldAt 1 1 p, ordinal := fieldAt 2 2 p, length := fieldAt 4 3 p,
                  accepted := 0, invalid := none } with
              load := some { slot := id, erase := .waiting, check := none }
              port :=
                some (.statusWrite id
                  { state := .loading, image := fieldAt 1 1 p, ordinal := fieldAt 2 2 p, length := fieldAt 4 3 p,
                    invalid := none }
                  false) } }) ∧
    (∀ slot : Slot, slot = s.tariff.slot id → slot.state = .loading →
      s.tariff.load = some { slot := id, erase := .done, check := none } → s.tariff.buffer = [] →
      (4 ≤ p.length → p.length ≤ 11 → fieldAt 1 2 p = slot.accepted →
        slot.accepted + (p.length - 3) ≤ slot.length →
        exec (.tariffData 0#4 dst (goodBody .tariffData 0#4 dst p)) s = .next
          { s.accepting with
            tariff :=
              { s.tariff.setSlot id { slot with accepted := slot.accepted + (p.length - 3) } with
                port := some .program
                buffer := [{ slot := id, offset := slot.accepted, data := p.drop 3, started := true }] } }) ∧
      (5 ≤ p.length → slot.length ≤ slot.accepted →
        exec (.tariffClose 0#4 dst (goodBody .tariffClose 0#4 dst p)) s = .next
          { s.accepting with
            tariff :=
              { s.tariff with
                port := some (.checkRead true)
                load :=
                  some
                    { slot := id, erase := .done,
                      check := some { crc := BitVec.ofNat 32 (fieldAt 1 4 p), offset := 0, failed := false } } } }))) ∧
  (∀ (s : State) (dst : Node) (p : List Byte) (reason : Byte) (code : SlotId → Nat), s.hears dst → p.length ≤ 12 →
    code .a = 0 → code .b = 1 →
    (7 ≤ p.length →
      ((reason = 2#8 ∧ 1 < fieldAt 0 1 p) ∨
        ∃ id : SlotId, fieldAt 0 1 p = code id ∧
          ((reason = 2#8 ∧ (fieldAt 1 1 p = 0 ∨ fieldAt 4 3 p = 0 ∨ 65536 < fieldAt 4 3 p)) ∨
            (fieldAt 1 1 p ≠ 0 ∧ 1 ≤ fieldAt 4 3 p ∧ fieldAt 4 3 p ≤ 65536 ∧
              ((reason = 3#8 ∧ (s.tariff.slot id).state = .active) ∨
                (reason = 1#8 ∧ (s.tariff.slot id).state = .superseded ∧ s.tariff.marker = some id) ∨
                (reason = 3#8 ∧ (s.tariff.slot id).state ≠ .active ∧
                  ((s.tariff.slot id).state ≠ .superseded ∨ s.tariff.marker ≠ some id) ∧
                  (s.tariff.slot id.other).image = fieldAt 1 1 p ∧
                  ((s.tariff.slot id.other).state = .ready ∨ (s.tariff.slot id.other).state = .active ∨
                    (s.tariff.slot id.other).state = .superseded)))))) →
      exec (.tariffOpen 0#4 dst (goodBody .tariffOpen 0#4 dst p)) s =
        .next (s.refusing [17#8, reason, 0#8, 0#8, 0#8])) ∧
    (3 ≤ p.length → ∀ detail : Nat,
      ((reason = 2#8 ∧ detail = 0 ∧ 1 < fieldAt 0 1 p) ∨
        ∃ (id : SlotId) (slot : Slot), fieldAt 0 1 p = code id ∧ slot = s.tariff.slot id ∧
          ((reason = 3#8 ∧ detail = 0 ∧
              (slot.state ≠ .loading ∨ ∃ l, s.tariff.load = some l ∧ l.slot = id ∧ l.check ≠ none)) ∨
            (slot.state = .loading ∧ (∀ l, s.tariff.load = some l → l.slot = id → l.check = none) ∧
              ((reason = 4#8 ∧ detail = slot.accepted ∧ fieldAt 1 2 p ≠ slot.accepted) ∨
                (fieldAt 1 2 p = slot.accepted ∧ detail = 0 ∧
                  ((reason = 2#8 ∧
                      (p.length = 3 ∨ 11 < p.length ∨ slot.length < slot.accepted + (p.length - 3))) ∨
                    (reason = 1#8 ∧ 4 ≤ p.length ∧ p.length ≤ 11 ∧
                      slot.accepted + (p.length - 3) ≤ slot.length ∧ 2 ≤ s.tariff.buffer.length))))))) →
      exec (.tariffData 0#4 dst (goodBody .tariffData 0#4 dst p)) s =
        .next (s.refusing ([18#8, reason] ++ beBytes 3 detail))) ∧
    (5 ≤ p.length → ∀ detail : Nat,
      ((reason = 2#8 ∧ detail = 0 ∧ 1 < fieldAt 0 1 p) ∨
        ∃ (id : SlotId) (slot : Slot), fieldAt 0 1 p = code id ∧ slot = s.tariff.slot id ∧
          ((reason = 3#8 ∧ detail = 0 ∧
              (slot.state ≠ .loading ∨ ∃ l, s.tariff.load = some l ∧ l.slot = id ∧ l.check ≠ none)) ∨
            (slot.state = .loading ∧ (∀ l, s.tariff.load = some l → l.slot = id → l.check = none) ∧
              ((reason = 1#8 ∧ detail = 0 ∧
                  ((∀ l, s.tariff.load = some l → l.slot = id → l.erase ≠ .done) ∨ s.tariff.buffer ≠ [])) ∨
                (reason = 4#8 ∧ detail = slot.accepted ∧
                  (∃ l, s.tariff.load = some l ∧ l.slot = id ∧ l.erase = .done) ∧ s.tariff.buffer = [] ∧
                  slot.accepted < slot.length))))) →
      exec (.tariffClose 0#4 dst (goodBody .tariffClose 0#4 dst p)) s =
        .next (s.refusing ([19#8, reason] ++ beBytes 3 detail)))) ∧
  ∀ (s : State) (dst : Node) (p : List Byte) (id : SlotId) (l : Load) (now after : PortOp) (opened : Slot),
    s.hears dst → 7 ≤ p.length → p.length ≤ 12 → fieldAt 0 1 p = (match id with | .a => 0 | .b => 1) →
    fieldAt 1 1 p ≠ 0 → 1 ≤ fieldAt 4 3 p → fieldAt 4 3 p ≤ 65536 → (s.tariff.slot id).state ≠ .active →
    ((s.tariff.slot id).state ≠ .superseded ∨ s.tariff.marker ≠ some id) →
    ((s.tariff.slot id.other).state = .empty ∨ (s.tariff.slot id.other).state = .loading ∨
      (s.tariff.slot id.other).state = .invalid ∨ (s.tariff.slot id.other).image ≠ fieldAt 1 1 p) →
    s.tariff.load = some l → s.tariff.writes = [] → s.tariff.port = some now →
    ((∃ x, now = .erase x true ∧ after = .erase x false) ∨ (now = .checkRead true ∧ after = .checkRead false) ∨
      (now = .program ∧ after = .program)) →
    opened = { state := .loading, image := fieldAt 1 1 p, ordinal := fieldAt 2 2 p, length := fieldAt 4 3 p,
               accepted := 0, invalid := none } →
    (l.slot = id →
      exec (.tariffOpen 0#4 dst (goodBody .tariffOpen 0#4 dst p)) s = .next
        { s.accepting with
          tariff :=
            { s.tariff.setSlot id opened with
              buffer := s.tariff.buffer.filter (fun e => e.started)
              load := some { slot := id, erase := .waiting, check := none }
              port := some after
              writes := [{ slot := id, readyFirst := false }] } }) ∧
    (l.slot = id.other →
      exec (.tariffOpen 0#4 dst (goodBody .tariffOpen 0#4 dst p)) s = .next
        { s.accepting with
          tariff :=
            { (s.tariff.setSlot id opened).setSlot id.other Slot.blank with
              buffer := s.tariff.buffer.filter (fun e => e.started)
              load := some { slot := id, erase := .waiting, check := none }
              port := some after
              writes := [{ slot := id.other, readyFirst := false }, { slot := id, readyFirst := false }] } })

/-! ### Accounting -/

/-- The completion of a debit write (07 R143, R147, 06 R128): the registers, the books, the record's piece number and
claim phase, the commit history ring, EXHAUSTED, the report of an EXITED record, and the next debit of the queue. -/
def Obligations.DebitCompletesInItsOrder : Prop :=
  ∀ (s : State) (item : DebitItem) (set : NvSet) (r : Record) (p : RatingPart) (q : Record) (entry : RingEntry),
    s.loader.powered = true → s.au.write = some (.debit item set) → s.au.faulted = false → s.table.records = [r] →
    r.key = item.key → r.claim = .debitWait → r.rating = some (.rated p) → s.cc.ring.length ≤ 16 →
    q = { r with pieceNumber := some set.count, claim := if r.outcome = none then .armed else .ended } →
    entry = { key := r.key, step := p.step, weight := r.weighing.weight.getD 0, marked := false } →
    (r.presence = .present → s.au.queue = [] →
      exec .debitWriteComplete s = .next
        { s with
          au :=
            { s.au.setBank s.au.current.other (some set) with
              current := s.au.current.other, write := none, committed := s.au.committed - item.amount,
              outstanding := s.au.outstanding - 1 }
          table := { s.table with records := [q] }
          cc := { s.cc with ring := (if s.cc.ring.length = 16 then s.cc.ring.tail else s.cc.ring) ++ [entry] }
          inhibit :=
            { s.inhibit with exhausted := s.inhibit.exhausted || decide (set.count = 999999999) } }) ∧
    (∀ (next : DebitItem) (rest : List DebitItem), r.presence = .present → s.au.queue = next :: rest →
      exec .debitWriteComplete s = .next
        { s with
          au :=
            { s.au.setBank s.au.current.other (some set) with
              current := s.au.current.other
              write := some (.debit next
                { set with
                  descending := set.descending - next.amount
                  ascending := set.ascending + next.amount
                  count := set.count + 1
                  generation := (set.generation + 1) % 256 })
              queue := rest
              committed := s.au.committed - item.amount
              outstanding := s.au.outstanding - 1 }
          table := { s.table with records := [q] }
          cc := { s.cc with ring := (if s.cc.ring.length = 16 then s.cc.ring.tail else s.cc.ring) ++ [entry] }
          inhibit :=
            { s.inhibit with exhausted := s.inhibit.exhausted || decide (set.count = 999999999) } }) ∧
    (r.presence = .exited → s.au.queue = [] → s.lc.queue.length + 2 ≤ 8 → s.rater.walk = none →
      s.lpu.entryOwner = none →
      exec .debitWriteComplete s = .next
        { s with
          au :=
            { s.au.setBank s.au.current.other (some set) with
              current := s.au.current.other, write := none, committed := s.au.committed - item.amount,
              outstanding := s.au.outstanding - 1 }
          table := { s.table with records := [] }
          cc := { s.cc with ring := (if s.cc.ring.length = 16 then s.cc.ring.tail else s.cc.ring) ++ [entry] }
          inhibit :=
            { s.inhibit with exhausted := s.inhibit.exhausted || decide (set.count = 999999999) }
          lc :=
            { s.lc with
              queue := insertEntry (newEntry .pieceReport 0#4 (reportPart2 q))
                (insertEntry (newEntry .pieceReport 0#4 (reportPart1 q)) s.lc.queue) } })

/-- CREDIT (07 R145) and the completion of its write (07 R146, R148): the tests in their order, the set put into the
other bank, and the ACCOUNT REPORT. -/
def Obligations.CreditsAreTestedAndWritten : Prop :=
  (∀ (s : State) (dst : Node) (p : List Byte) (x n : Nat) (g : NvSet), s.hears dst → 6 ≤ p.length → p.length ≤ 12 →
    x = fieldAt 0 4 p → n = fieldAt 4 2 p → g = s.au.registers →
    (∀ (reason : Byte) (detail : Nat),
      ((reason = 3#8 ∧ detail = 0 ∧ s.au.faulted = true) ∨
        (reason = 1#8 ∧ detail = 0 ∧ s.au.faulted = false ∧ (s.au.write ≠ none ∨ s.au.queue ≠ [])) ∨
        (s.au.faulted = false ∧ s.au.write = none ∧ s.au.queue = [] ∧
          ((reason = 4#8 ∧ detail = g.nextCredit ∧ n ≠ g.nextCredit) ∨
            (reason = 2#8 ∧ detail = 0 ∧ n = g.nextCredit ∧
              (x = 0 ∨ s.loader.config.creditLimit < x ∨ 99999999 < g.descending + x ∨
                999999999999 < g.control + x))))) →
      exec (.credit 0#4 dst (goodBody .credit 0#4 dst p)) s = .next
        { s.accepting with
          lc :=
            { s.accepting.lc with
              queue :=
                if s.lc.queue.length < 8 then
                  insertEntry (newEntry .refusal 0#4 ([9#8, reason] ++ beBytes 3 detail)) s.lc.queue
                else s.lc.queue } }) ∧
    (s.au.faulted = false → s.au.write = none → s.au.queue = [] → n = g.nextCredit → 1 ≤ x →
      x ≤ s.loader.config.creditLimit → g.descending + x ≤ 99999999 → g.control + x ≤ 999999999999 →
      exec (.credit 0#4 dst (goodBody .credit 0#4 dst p)) s = .next
        { s.accepting with
          au :=
            { s.au with
              write := some (.credit
                { g with
                  descending := g.descending + x
                  control := g.control + x
                  nextCredit := if n = 65535 then 1 else n + 1
                  generation := (g.generation + 1) % 256 }) } })) ∧
  ∀ (s : State) (set : NvSet), s.loader.powered = true → s.au.write = some (.credit set) → s.au.faulted = false →
    s.au.queue = [] →
    exec .creditWriteComplete s = .next
      { s with
        au :=
          { s.au.setBank s.au.current.other (some set) with current := s.au.current.other, write := none }
        lc :=
          { s.lc with
            queue :=
              if s.lc.queue.length ≤ 6 then
                insertEntry
                  (newEntry .accountReport 0#4
                    (beBytes 4 set.count ++ beBytes 7 (set.descending * 268435456 + s.au.reserved)))
                  (insertEntry
                    (newEntry .accountReport 0#4
                      (beBytes 5 set.ascending ++ beBytes 5 set.control ++ beBytes 2 set.nextCredit))
                    s.lc.queue)
              else s.lc.queue } }

/-- ACCOUNT QUERY and STATUS QUERY (07 R148, 09 R185, 11 Table 11-2): two frames when the queue has room for both, none
otherwise; in OFFLINE a STATUS REPORT carries the mode reason, the line position and the queue count alone. -/
def Obligations.QueriesAreAnswered : Prop :=
  (∀ (s : State) (dst : Node) (p : List Byte) (m : StationMode), s.hears dst → p.length ≤ 12 →
    s.loader.mode = some m →
    exec (.accountQuery 0#4 dst (goodBody .accountQuery 0#4 dst p)) s = .next
        { s.accepting with
          lc :=
            { s.accepting.lc with
              queue :=
                if s.lc.queue.length ≤ 6 then
                  insertEntry (newEntry .accountReport 0#4 (accountPart2 s.au))
                    (insertEntry (newEntry .accountReport 0#4 (accountPart1 s.au)) s.lc.queue)
                else s.lc.queue } } ∧
      exec (.statusQuery 0#4 dst (goodBody .statusQuery 0#4 dst p)) s = .next
        { s.accepting with
          lc :=
            { s.accepting.lc with
              queue :=
                if s.lc.queue.length ≤ 6 then
                  insertEntry (newEntry .statusReport 0#4 (statusPart2 s m))
                    (insertEntry (newEntry .statusReport 0#4 (statusPart1 s m)) s.lc.queue)
                else s.lc.queue } }) ∧
  ∀ (s : State) (dst : Node) (p : List Byte), s.loader.powered = true → s.lc.idleSeen = true →
    (dst = s.loader.number ∨ dst = 15#4) → p.length ≤ 12 → s.loader.mode = some .offline → s.lc.queue = [] →
    exec (.statusQuery 0#4 dst (goodBody .statusQuery 0#4 dst p)) s = .next
      { s.accepting with
        lc :=
          { s.accepting.lc with
            queue :=
              [newEntry .statusReport 0#4
                  ([BitVec.ofNat 8 s.loader.reason.code, 0#8, 0#8] ++ beBytes 3 s.lpu.linePos.toNat ++ [0#8, 0#8]),
                newEntry .statusReport 0#4 [128#8, 0#8, 0#8, 0#8, 0#8, 0#8, 0#8]] } }

/-! ### The link -/

/-- What a frame of another node does before any block acts (09 R170, R173, R174, R176, R177, 11 R198; assumption log
6, 16): the slot that is driven, in every mode, by the goodness of the frame; a bad frame and one that another receiver
rejected are discarded; the delivered frames that reach no block, and the NOT_ALLOWED refusal of a terminal kind from a
station. -/
def Obligations.DeliveredFramesAreScreened : Prop :=
  ∀ (c : Instr) (s : State) (k : Kind) (src dst : Node) (p : List Byte) (e : FrameBody),
    frameOfCommand c = some (k, src, dst, e) → p = e.payload →
    ((s.loader.powered = false ∨ s.lc.idleSeen = false) → exec c s = .next s) ∧
    (s.loader.powered = true → s.lc.idleSeen = true →
      (12 < p.length ∨ e.check ≠ some (crc16 (checkedBits k.code src dst p))) →
      exec c s = .next { s with lc := { s.lc with receiver := false, drove := .reject } }) ∧
    (s.loader.powered = true → s.lc.idleSeen = true → p.length ≤ 12 →
      e.check = some (crc16 (checkedBits k.code src dst p)) → e.rejected = true →
      exec c s = .next { s with lc := { s.lc with receiver := false, drove := .accept } }) ∧
    (s.loader.powered = true → s.lc.idleSeen = true → p.length ≤ 12 → e = goodBody k src dst p →
      (s.loader.mode = none ∨ (dst ≠ s.loader.number ∧ dst ≠ 15#4) ∨ src = 15#4 ∨
        (s.loader.mode = some .offline ∧ (k ≠ .statusQuery ∨ src ≠ 0#4)) ∨
        (k = .lineReset ∧ (src ≠ 0#4 ∨ dst ≠ 15#4)) ∨
        (p.length < k.payloadLength ∧ (k.terminal = false ∨ src = 0#4))) →
      exec c s = .next s.accepting) ∧
    (s.hears dst → p.length ≤ 12 → e = goodBody k src dst p → k.terminal = true → k ≠ .lineReset → src ≠ 0#4 →
      src ≠ 15#4 →
      exec c s = .next
        { s.accepting with
          lc :=
            { s.accepting.lc with
              queue :=
                if s.lc.queue.length < 8 then
                  insertEntry
                    (newEntry .refusal 0#4 [BitVec.ofNat 8 k.code, 6#8, 0#8, 0#8, BitVec.ofNat 8 src.toNat])
                    s.lc.queue
                else s.lc.queue } })

/-- The first idle, the start of an attempt and its three unsuccessful ends (09 R172, R175, R180, R181): a lost
arbitration keeps the count of failed attempts, a failure raises it by one, and the frame keeps its place. That a
read-back failure raises the count like a failure at a slot is the model's reading (assumption log 30). -/
def Obligations.AttemptsStartAndFail : Prop :=
  (∀ s : State, s.loader.powered = true →
    exec .firstIdleSeen s = .next { s with lc := { s.lc with idleSeen := true } }) ∧
  (∀ (s : State) (e : TxEntry) (rest : List TxEntry), s.started = true → s.lc.idleSeen = true →
    s.lc.queue = e :: rest → (∀ x ∈ s.lc.queue, x.onMedium = false) →
    exec .attemptStart s = .next
      { s with
        lc :=
          { s.lc with
            queue := { e with onMedium := true } :: rest
            attempt := some (frameOf s.loader.number e)
            receiver := false
            drove := .none } }) ∧
  ∀ (s : State) (e : TxEntry) (front back : List TxEntry), s.loader.powered = true →
    s.lc.queue = front ++ e :: back → e.onMedium = true → (∀ x ∈ front ++ back, x.onMedium = false) →
    e.withdrawn = false →
    exec .lostArbitration s = .next
        { s with
          lc :=
            { s.lc with
              queue := front ++ { e with onMedium := false } :: back, attempt := none, receiver := true } } ∧
      (e.failures < 7 →
        exec .attemptFailed s = .next
            { s with
              lc :=
                { s.lc with
                  queue := front ++ { e with onMedium := false, failures := e.failures + 1 } :: back
                  attempt := none } } ∧
          exec .readBackFailure s = .next
            { s with
              lc :=
                { s.lc with
                  queue := front ++ { e with onMedium := false, failures := e.failures + 1 } :: back
                  attempt := none
                  receiver := true } })

/-- The eighth failure of a frame (09 R182, R183, 06 R111): a CLAIM is abandoned and its record ends with
LINK_ABANDONED, its reservation released; the third abandonment in a row puts a RUNNING station into HOLD with LINK; a
PIECE REPORT stays in its place and puts a RUNNING station into HOLD with LINK, and outside RUNNING nothing more
follows. -/
def Obligations.EighthFailureAbandonsAFrame : Prop :=
  ∀ (s : State) (e : TxEntry), s.loader.powered = true → s.lc.queue = [e] → e.onMedium = true →
    e.withdrawn = false →
    (∀ (r : Record) (amount : Nat), e.failures = 7 → e.kind = .claim → e.record = some r.key →
      s.table.records = [r] → r.claim = .claiming → r.presence = .present → r.reserved = some amount →
      s.lc.abandons ≤ 1 →
      exec .attemptFailed s = .next
        { s with
          lc := { s.lc with queue := [], attempt := none, abandons := s.lc.abandons + 1 }
          table := { s.table with records := [{ r with claim := .ended, pass := .linkAbandoned }] }
          au := { s.au with reserved := s.au.reserved - amount, outstanding := s.au.outstanding - 1 } }) ∧
    (e.failures = 7 → e.kind ≠ .claim → e.kind ≠ .pieceReport → s.table.records = [] → s.rater.walk = none →
      2 ≤ s.lc.abandons → s.loader.mode = some .running →
      exec .attemptFailed s = .next
        { s with
          lc := { s.lc with queue := [], attempt := none, abandons := 3 }
          loader := { s.loader with mode := some .hold, reason := .hold .link }
          lpu := { s.lpu with entryOwner := none }
          ip := { s.ip with owner := none } }) ∧
    ((e.failures = 7 ∨ e.failures = 8) → e.kind = .pieceReport → s.loader.mode ≠ some .running →
      exec .attemptFailed s = .next
        { s with
          lc := { s.lc with queue := [{ e with onMedium := false, failures := 8 }], attempt := none } }) ∧
    ((e.failures = 7 ∨ e.failures = 8) → e.kind = .pieceReport → s.table.records = [] → s.rater.walk = none →
      s.loader.mode = some .running →
      exec .attemptFailed s = .next
        { s with
          lc := { s.lc with queue := [{ e with onMedium := false, failures := 8 }], attempt := none }
          loader := { s.loader with mode := some .hold, reason := .hold .link }
          lpu := { s.lpu with entryOwner := none }
          ip := { s.ip with owner := none } })

/-- The delivery of the own frame (09 R181, 06 R110, R112, 02 R33): a CLAIM makes its record CLAIMED; a CLAIM that has
been withdrawn is answered by a RELEASE; the departure of any frame offers the report of an EXITED record. -/
def Obligations.DeliveryTellsTheOwner : Prop :=
  ∀ (s : State) (e : TxEntry) (r : Record), s.loader.powered = true → s.lc.queue = [e] → e.onMedium = true →
    s.table.records = [r] →
    (e.kind = .claim → e.record = some r.key → e.withdrawn = false → r.presence = .present → r.claim = .claiming →
      exec .frameDelivered s = .next
        { s with
          lc := { s.lc with queue := [], attempt := none, abandons := 0 }
          table := { s.table with records := [{ r with claim := .claimed }] } }) ∧
    (∀ k : Pos, e.kind = .claim → e.record = some k → e.withdrawn = true → r.presence = .present →
      exec .frameDelivered s = .next
        { s with
          lc :=
            { s.lc with
              queue := [newEntry .release 15#4 (beBytes 3 k.toNat)], attempt := none, abandons := 0 } }) ∧
    (e.kind = .pieceReport → r.presence = .exited → r.claim = .ended → s.rater.walk = none →
      s.lpu.entryOwner = none →
      exec .frameDelivered s = .next
        { s with
          lc :=
            { s.lc with
              queue :=
                [newEntry .pieceReport 0#4 (reportPart1 r), newEntry .pieceReport 0#4 (reportPart2 r)]
              attempt := none
              abandons := 0 }
          table := { s.table with records := [] } })

/-- A LINE RESET from the terminal to all stations (10 R195, 01 R3, 02 R40, 03 R53, R59, 05 R103, 06 R133, 09 R187, 07
R150): what every block does, in UNSYNCED, RUNNING and HOLD: no amount stays reserved; the job in force, or else the
front job, is kept with effective key 0; EXITED records stay or are reported, committed records become EXITED and
SPOILED, and every other record is gone. -/
def Obligations.LineResetStartsTheStation : Prop :=
  ∀ (s : State) (p : List Byte), s.hears 15#4 → p.length ≤ 12 →
    ∃ t, exec (.lineReset 0#4 15#4 (goodBody .lineReset 0#4 15#4 p)) s = .next t ∧
      t.loader = { s.loader with mode := some .running, reason := .none } ∧
      (t.lpu.linePos = 0#24 ∧ t.lpu.synced = true ∧ t.lpu.reversal = 0 ∧ t.lpu.entryOwner = none ∧
        t.lpu.clearance = none ∧ t.lpu.tally = s.lpu.tally ∧ t.lpu.speed = s.lpu.speed ∧
        t.lpu.entryRun = s.lpu.entryRun ∧ t.lpu.exitRun = s.lpu.exitRun ∧
        t.lpu.entryBlocked = s.lpu.entryBlocked ∧ t.lpu.exitBlocked = s.lpu.exitBlocked) ∧
      (t.table.horizon = none ∧ ∀ r ∈ t.table.records, r.presence = .exited ∧ r.beforeReset = true) ∧
      t.wu = { s.wu with guardPos := some (BitVec.ofNat 24 (s.loader.config.pe + 1)) } ∧
      (t.inhibit.layout = false ∧ t.inhibit.paused = false ∧ t.inhibit.blind = false ∧
        t.inhibit = { s.inhibit with layout := false, paused := false, blind := false }) ∧
      (t.rater.cache = s.rater.cache ∧ t.rater.limits = s.rater.limits ∧ t.rater.jobs.length ≤ 1 ∧
        (∀ j ∈ t.rater.jobs, j.inForce = true ∧ j.key = 0#24) ∧ (∀ w, t.rater.walk = some w → w.noFill = true)) ∧
      (t.cc.peers = [] ∧ t.cc.ring = s.cc.ring ∧ t.lc.attempt = none ∧ t.lc.abandons = 0) ∧
      (∀ e ∈ t.lc.queue, (e.kind = .pieceReport ∨ e.kind = .online) ∧ e.failures = 0) ∧
      ((s.lc.queue.filter (fun e => e.kind == .pieceReport)).length < 8 →
        newEntry .online 15#4
            (beBytes 2 s.loader.config.offset ++ beBytes 2 s.loader.config.d ++ beBytes 2 s.loader.config.k) ∈
          t.lc.queue) ∧
      (t.au.registers = s.au.registers ∧ t.au.queue = s.au.queue ∧ t.au.write = s.au.write ∧
        t.au.committed = s.au.committed ∧ t.tariff = s.tariff) ∧
      (s.loader.mode = some .running → t.ip.owner = none) ∧
      ((s.rater.jobs = [] → t.rater.jobs = []) ∧
        ∀ (front : List Job) (j : Job) (back : List Job), s.rater.jobs = front ++ j :: back →
          (∀ x ∈ front, x.inForce = false) → (j.inForce = true ∨ (front = [] ∧ ∀ x ∈ back, x.inForce = false)) →
          t.rater.jobs = [{ j with key := 0#24, inForce := true }]) ∧
      (s.fundsSound = true →
        (t.au.reserved = 0 ∧ t.au.outstanding = s.au.queue.length + debitsInWrite s.au.write) ∧
        (∀ r ∈ s.table.records,
          (r.presence = .exited → t.keepsOrReports { r with beforeReset := true }) ∧
          (r.presence = .present → r.claim = .debitWait →
            { r with
              presence := .exited, outcome := some (r.outcome.getD .spoiled)
              pass := if r.outcome = none then .hold else r.pass, beforeReset := true } ∈ t.table.records) ∧
          (r.presence = .present → (r.claim = .armed ∨ r.claim = .printing) → r.outcome = none →
            t.keepsOrReports
              { r with
                presence := .exited, claim := .ended, outcome := some .spoiled, pass := .hold, beforeReset := true }) ∧
          (r.presence = .present → r.claim = .ended → r.pieceNumber ≠ none →
            t.keepsOrReports { r with presence := .exited, beforeReset := true })) ∧
        ∀ q ∈ t.table.records, ∃ r ∈ s.table.records, r.key = q.key ∧ (r.presence = .exited ∨ r.debitedHere = true))

/-! ### Claims, releases, disputes and the terminal's controls -/

/-- A CLAIM of another station on the only record, which its key names (06 R115 to R118, Table 6-4), and on a key that
no record matches (02 R26); a CLAIMING record that yields has its CLAIM withdrawn (06 R112, R117); a RATED and settled
record evaluates its dispute test once (06 R126, R127). -/
def Obligations.ForeignClaimMeetsTheTable : Prop :=
  ∀ (s : State) (src dst : Node) (p : List Byte) (k : Pos) (f : ForeignClaim), s.hears dst → 10 ≤ p.length →
    p.length ≤ 12 → src ≠ 0#4 → src ≠ 15#4 → src ≠ s.loader.number → k = BitVec.ofNat 24 (fieldAt 0 3 p) →
    f = { station := src.toNat, weight := fieldAt 3 2 p, step := fieldAt 5 1 p, image := fieldAt 6 1 p } →
    (∀ r, s.table.records = [r] → within s.loader.config.window r.key k = true →
      (r.phase ≠ .rated ∨ r.disputeSent = true ∨ r.weighing.settled = false) →
      ((r.debitedHere = true →
        exec (.claim src dst (goodBody .claim src dst p)) s = .next
          { s.accepting with table := { s.table with records := [{ r with conflict := true }] } }) ∧
      (r.debitedHere = false → r.presence = .exited →
        exec (.claim src dst (goodBody .claim src dst p)) s = .next s.accepting) ∧
      (r.debitedHere = false → r.presence ≠ .exited →
        (r.claim = .opened ∨ r.claim = .ended ∨
          (r.claim = .foreign ∧ ∃ kept, r.foreign = some kept ∧ f.station ≤ kept.station)) →
        exec (.claim src dst (goodBody .claim src dst p)) s = .next
          { s.accepting with
            table := { s.table with records := [{ r with claim := .foreign, foreign := some f }] } }) ∧
      (r.presence = .present →
        ((r.claim = .foreign ∧ ∃ kept, r.foreign = some kept ∧ kept.station < f.station) ∨
          ((r.claim = .claiming ∨ r.claim = .claimed) ∧ s.loader.config.station ≤ f.station)) →
        r.debitedHere = false → exec (.claim src dst (goodBody .claim src dst p)) s = .next s.accepting) ∧
      ∀ amount, r.claim = .claimed → r.presence = .present → r.pieceNumber = none → r.reserved = some amount →
        f.station < s.loader.config.station → s.lc.queue = [] →
        exec (.claim src dst (goodBody .claim src dst p)) s = .next
          { s.accepting with
            table := { s.table with records := [{ r with claim := .foreign, foreign := some f }] }
            au :=
              { s.au with reserved := s.au.reserved - amount, outstanding := s.au.outstanding - 1 } })) ∧
    (∀ r (amount : Nat) (e : TxEntry), s.table.records = [r] → within s.loader.config.window r.key k = true →
      (r.phase ≠ .rated ∨ r.disputeSent = true ∨ r.weighing.settled = false) → r.claim = .claiming →
      r.presence = .present → r.pieceNumber = none → r.reserved = some amount →
      f.station < s.loader.config.station → s.lc.queue = [e] → e.kind = .claim → e.record = some r.key →
      e.withdrawn = false →
      exec (.claim src dst (goodBody .claim src dst p)) s = .next
        { s.accepting with
          table := { s.table with records := [{ r with claim := .foreign, foreign := some f }] }
          au := { s.au with reserved := s.au.reserved - amount, outstanding := s.au.outstanding - 1 }
          lc :=
            { s.accepting.lc with queue := if e.onMedium then [{ e with withdrawn := true }] else [] } }) ∧
    (∀ (r : Record) (q : RatingPart) (weight : Nat), s.table.records = [r] →
      within s.loader.config.window r.key k = true → r.presence = .present → r.claim = .opened →
      r.pieceNumber = none → r.phase = .rated → r.rating = some (.rated q) → r.weighing.weight = some weight →
      r.weighing.settled = true → r.disputeSent = false → s.lc.queue.length < 8 →
      exec (.claim src dst (goodBody .claim src dst p)) s = .next
        { s.accepting with
          table :=
            { s.table with
              records := [{ r with claim := .foreign, foreign := some f, disputeSent := true }] }
          lc :=
            { s.accepting.lc with
              queue :=
                if q.image = f.image ∧ q.step ≠ f.step ∧
                    (s.loader.config.disputeTolerance < weight - f.weight ∨
                      s.loader.config.disputeTolerance < f.weight - weight) then
                  insertEntry
                    (newEntry .dispute src
                      (beBytes 3 r.key.toNat ++ [BitVec.ofNat 8 src.toNat] ++ beBytes 2 weight ++
                        [BitVec.ofNat 8 q.step])) s.lc.queue
                else s.lc.queue } }) ∧
    ((∀ q ∈ s.table.records, within s.loader.config.window q.key k = false) →
      (s.loader.mode = some .running → s.table.records.length < 16 →
        precedes s.lpu.linePos (k + BitVec.ofNat 24 (s.loader.config.offset + s.loader.config.window + 1)) = true →
        ∃ (t : State) (r : Record), exec (.claim src dst (goodBody .claim src dst p)) s = .next t ∧
          t.table.records.Perm (r :: s.table.records) ∧
          t = { s.accepting with table := { s.table with records := t.table.records } } ∧ r.key = k ∧
          r.presence = .noticed ∧ r.phase = .none ∧ r.claim = .foreign ∧ r.foreign = some f ∧ r.job = none ∧
          r.pass = .none ∧ r.rating = none ∧
          r.noticeLimit = some (k + BitVec.ofNat 24 (s.loader.config.offset + s.loader.config.window + 1))) ∧
      (s.loader.mode ≠ some .running → exec (.claim src dst (goodBody .claim src dst p)) s = .next s.accepting))

/-- A RELEASE of the kept claimant of the only record (06 R119): a NOTICED record is removed, a PRESENT one is OPEN
again before D and ENDED with RELEASED_LATE from D on; any other RELEASE is ignored. -/
def Obligations.ReleaseReopensOrEnds : Prop :=
  ∀ (s : State) (src dst : Node) (p : List Byte) (r : Record), s.hears dst → 3 ≤ p.length → p.length ≤ 12 →
    src ≠ 0#4 → src ≠ 15#4 → src ≠ s.loader.number → s.table.records = [r] →
    within s.loader.config.window r.key (BitVec.ofNat 24 (fieldAt 0 3 p)) = true →
    (r.claim ≠ .foreign ∨ r.foreign.map (fun f => f.station) ≠ some src.toNat →
      exec (.release src dst (goodBody .release src dst p)) s = .next s.accepting) ∧
    ∀ f : ForeignClaim, r.claim = .foreign → r.foreign = some f → f.station = src.toNat →
      (r.presence = .noticed → s.rater.walk = none → s.lpu.entryOwner = none →
        exec (.release src dst (goodBody .release src dst p)) s = .next
          { s.accepting with table := { s.table with records := [] } }) ∧
      (r.presence = .present → (r.awaits = .ps ∨ r.awaits = .pe ∨ r.awaits = .d) →
        exec (.release src dst (goodBody .release src dst p)) s = .next
          { s.accepting with
            table := { s.table with records := [{ r with claim := .opened, foreign := none }] } }) ∧
      (r.presence = .present → r.awaits ≠ .ps → r.awaits ≠ .pe → r.awaits ≠ .d →
        exec (.release src dst (goodBody .release src dst p)) s = .next
          { s.accepting with
            table := { s.table with records := [{ r with claim := .ended, pass := .releasedLate }] } })

/-- A DISPUTE that names the own station (06 R129, R130): the entry of the ring that its key alone matches is marked,
and the mark that brings the marked count to the dispute limit raises SCALE_SUSPECT; a marked entry, and a key that no
entry matches, change nothing. That a DISPUTE sent to all stations (15) is taken like one to the own station is the
model's reading (assumption log 21). -/
def Obligations.DisputesMarkTheRing : Prop :=
  ∀ (s : State) (src dst : Node) (p : List Byte) (k : Pos), s.hears dst → 7 ≤ p.length → p.length ≤ 12 →
    src ≠ 0#4 → src ≠ 15#4 → fieldAt 3 1 p = s.loader.config.station → k = BitVec.ofNat 24 (fieldAt 0 3 p) →
    ((∀ e ∈ s.cc.ring, within s.loader.config.window e.key k = false) →
      exec (.dispute src dst (goodBody .dispute src dst p)) s = .next s.accepting) ∧
    ∀ (front : List RingEntry) (e : RingEntry) (back : List RingEntry), s.cc.ring = front ++ e :: back →
      within s.loader.config.window e.key k = true →
      (∀ x ∈ front ++ back, within s.loader.config.window x.key k = false) →
      (e.marked = true → exec (.dispute src dst (goodBody .dispute src dst p)) s = .next s.accepting) ∧
      (e.marked = false →
        exec (.dispute src dst (goodBody .dispute src dst p)) s = .next
          { s.accepting with
            cc := { s.cc with ring := front ++ { e with marked := true } :: back }
            inhibit :=
              { s.inhibit with
                scaleSuspect :=
                  s.inhibit.scaleSuspect ||
                    decide ((s.cc.ring.filter (fun x => x.marked)).length + 1 = s.loader.config.disputeLimit) } })

/-- PAUSE and RESUME (06 R121), CLEAR SCALE (06 R131, 03 R56) and ONLINE (06 R123, R124). -/
def Obligations.ControlsActOnTheInhibitSet : Prop :=
  (∀ (s : State) (dst : Node) (p : List Byte), s.hears dst → p.length ≤ 12 →
    exec (.pause 0#4 dst (goodBody .pause 0#4 dst p)) s = .next
        { s.accepting with inhibit := { s.inhibit with paused := true } } ∧
      exec (.resume 0#4 dst (goodBody .resume 0#4 dst p)) s = .next
        { s.accepting with inhibit := { s.inhibit with paused := false } } ∧
      exec (.clearScale 0#4 dst (goodBody .clearScale 0#4 dst p)) s = .next
        { s.accepting with
          inhibit := { s.inhibit with scaleSuspect := false, scaleFailed := false }
          wu := { s.wu with zeroFaults := 0 }
          cc := { s.cc with ring := s.cc.ring.map (fun e => { e with marked := false }) } }) ∧
  ∀ (s : State) (src dst : Node) (p : List Byte) (u : Peer), s.hears dst → 6 ≤ p.length → p.length ≤ 12 →
    src ≠ 0#4 → src ≠ 15#4 →
    u = { station := src.toNat, offset := fieldAt 0 2 p, d := fieldAt 2 2 p, k := fieldAt 4 2 p } →
    (src = s.loader.number →
      exec (.online src dst (goodBody .online src dst p)) s = .next
        { s.accepting with inhibit := { s.inhibit with layout := true } }) ∧
    (src ≠ s.loader.number →
      exec (.online src dst (goodBody .online src dst p)) s = .next
        { s.accepting with
          cc := { s.cc with peers := u :: s.cc.peers.filter (fun x => !(x.station == u.station)) }
          inhibit :=
            { s.inhibit with
              layout :=
                s.inhibit.layout ||
                  (if u.station < s.loader.config.station then
                    !(decide (u.offset < s.loader.config.offset) &&
                      decide (u.offset + u.k ≤ s.loader.config.offset + s.loader.config.d))
                  else decide (u.offset ≤ s.loader.config.offset)) } })

/-! ### The indicium -/

/-- Column `c` of an indicium holds a row exactly when the frame image has it, or the glyph column of a field that
stands there has it (08 R154 to R159): a field holds its digits, or blanks, from its start column on, one cell after
another, and cell row `i` lies at row top + `i`. -/
def Obligations.ColumnJoinsFrameAndFields : Prop :=
  ∀ (cfg : ConfigCopy) (p : PrintContent) (c row : Nat), row < 48 → 1 ≤ cfg.cellWidth → cfg.cellHeight ≤ 16 →
    ((composeColumn cfg p c).getMsbD row = true ↔
      ((cfg.frames.getD p.frameSel []).getD c 0#48).getMsbD row = true ∨
      ∃ (f : Field) (glyphs : List Nat) (i j cell : Nat),
        ((f = cfg.fieldValue ∧ glyphs = digits 5 p.value) ∨
          (f = cfg.fieldDate ∧
            glyphs = digits 2 p.day ++ [11] ++ digits 2 p.month ++ [11] ++ digits 2 p.year) ∨
          (f = cfg.fieldNumber ∧ glyphs = digits 9 p.number) ∨ (f = cfg.fieldSerial ∧ glyphs = digits 6 p.serial)) ∧
        c = f.start + cell * cfg.cellWidth + j ∧ cell < glyphs.length ∧ j < cfg.cellWidth ∧ row = f.top + i ∧
        i < cfg.cellHeight ∧
        ((cfg.glyphs.getD (if f.blanked then 10 else glyphs.getD cell 10) []).getD j 0#16).getMsbD i = true)

end
end

