-- ==== Sys2Proof/Laws/Memory.lean ====
section
/-! SUPPORT. The slot areas: their canonical form is kept by every operation, and a read gives what was last written. -/

namespace Sys2Proof.Laws

open Sys2Proof.Machine

/-! ### The canonical form -/

/-- A canonical list from a lower bound is canonical from any smaller one. -/
theorem wfFrom_mono {m : Memory} {low low' : Nat} (h : low' ≤ low) (hm : Memory.wfFrom low m = true) :
    Memory.wfFrom low' m = true := by
  cases m with
  | nil => rfl
  | cons c rest =>
    simp only [Memory.wfFrom, Bool.and_eq_true, decide_eq_true_eq] at hm ⊢
    exact ⟨⟨⟨by omega, hm.1.1.2⟩, hm.1.2⟩, hm.2⟩

/-- A write inside the area keeps the canonical form. -/
theorem memWrite_wfFrom {m : Memory} {low a : Nat} {v : Byte} (hm : Memory.wfFrom low m = true) (hl : low ≤ a)
    (ha : a < Config.areaBytes) : Memory.wfFrom low (memWrite m a v) = true := by
  induction m generalizing low with
  | nil =>
    simp only [memWrite]
    split
    · rfl
    · simp_all [Memory.wfFrom]
  | cons c rest ih =>
    obtain ⟨b, w⟩ := c
    simp only [Memory.wfFrom, Bool.and_eq_true, decide_eq_true_eq] at hm
    obtain ⟨⟨⟨h1, h2⟩, h3⟩, h4⟩ := hm
    simp only [memWrite]
    split
    · split
      · simp_all [Memory.wfFrom]
      · have := wfFrom_mono (m := rest) (low := b + 1) (low' := b + 1) (by omega) h4
        simp_all [Memory.wfFrom]
    · split
      · subst_vars
        split
        · exact wfFrom_mono (by omega) h4
        · simp_all [Memory.wfFrom]
      · have := ih h4 (by omega)
        simp_all [Memory.wfFrom]

/-- A write inside the area keeps the canonical form of the area. -/
theorem memWrite_wf {m : Memory} {a : Nat} {v : Byte} (hm : m.wf = true) (ha : a < Config.areaBytes) :
    Memory.wf (memWrite m a v) = true := memWrite_wfFrom hm (Nat.zero_le a) ha

/-- Writing a run of bytes inside the area keeps the canonical form. -/
theorem memWriteRun_wf {m : Memory} {a : Nat} {data : List Byte} (hm : m.wf = true)
    (ha : a + data.length ≤ Config.areaBytes) : Memory.wf (memWriteRun m a data) = true := by
  induction data generalizing m a with
  | nil => exact hm
  | cons v rest ih =>
    simp only [List.length_cons] at ha
    exact ih (memWrite_wf hm (by omega)) (by omega)

/-- Writing cells inside the area keeps the canonical form. -/
theorem memWriteCells_wf {m : Memory} {cells : List Host.Cell} (hm : m.wf = true)
    (hc : ∀ c ∈ cells, c.1 < Config.areaBytes) : Memory.wf (memWriteCells m cells) = true := by
  induction cells generalizing m with
  | nil => exact hm
  | cons c rest ih =>
    exact ih (memWrite_wf hm (hc c (by simp))) (fun d hd => hc d (by simp [hd]))

/-- An erased area is canonical. -/
theorem wf_nil : Memory.wf [] = true := rfl

/-- The areas of the reset state are canonical. -/
theorem reset_areas_wf (id : SlotId) : Memory.wf (State.reset.tariff.area id) = true := by cases id <;> rfl

/-! ### Reads and writes -/

/-- A byte below every entry is erased. -/
theorem memRead_below {m : Memory} {low a : Nat} (hm : Memory.wfFrom low m = true) (ha : a < low) :
    memRead m a = erasedByte := by
  cases m with
  | nil => rfl
  | cons c rest =>
    obtain ⟨b, w⟩ := c
    simp only [Memory.wfFrom, Bool.and_eq_true, decide_eq_true_eq] at hm
    simp only [memRead]
    rw [if_neg (by omega), if_pos (by omega)]

/-- Reading a byte after a write gives what was written there, and what stood there before elsewhere. -/
theorem memRead_memWrite {m : Memory} {low a x : Nat} {v : Byte} (hm : Memory.wfFrom low m = true) :
    memRead (memWrite m a v) x = if x = a then v else memRead m x := by
  induction m generalizing low with
  | nil =>
    simp only [memWrite]
    split <;> simp_all [memRead]
  | cons c rest ih =>
    obtain ⟨b, w⟩ := c
    simp only [Memory.wfFrom, Bool.and_eq_true, decide_eq_true_eq] at hm
    obtain ⟨⟨⟨h1, h2⟩, h3⟩, h4⟩ := hm
    have hr := ih h4
    have below : x ≤ b → memRead rest x = erasedByte := fun h => memRead_below h4 (by omega)
    simp only [memWrite]
    split
    · split
      · simp only [memRead]
        by_cases hx : x = a
        · subst hx
          rw [if_neg (by omega), if_pos (by omega), if_pos rfl]
          simp_all
        · rw [if_neg hx]
      · simp only [memRead]
        by_cases hx : x = a
        · simp [hx]
        · rw [if_neg hx, if_neg hx]
          by_cases hl : x < a
          · rw [if_pos hl, if_neg (by omega), if_pos (by omega)]
          · rw [if_neg hl]
    · split
      · subst_vars
        split
        · simp only [memRead]
          by_cases hx : x = b
          · subst hx; simp_all
          · simp only [hx, if_false]
            split
            · exact below (by omega)
            · rfl
        · simp only [memRead]
          split <;> simp_all
      · simp only [memRead, hr]
        split
        · subst_vars; split <;> simp_all
        · split
          · split
            · omega
            · rfl
          · rfl

/-- Bytes outside a run keep their values. -/
theorem memRead_memWriteRun_outside {m : Memory} {a x : Nat} {data : List Byte} (hm : m.wf = true)
    (ha : a + data.length ≤ Config.areaBytes) (hx : x < a ∨ a + data.length ≤ x) :
    memRead (memWriteRun m a data) x = memRead m x := by
  induction data generalizing m a with
  | nil => rfl
  | cons v rest ih =>
    simp only [List.length_cons] at ha hx
    have hw : Memory.wf (memWrite m a v) = true := memWrite_wf hm (by omega)
    rw [memWriteRun, ih hw (by omega) (by omega), memRead_memWrite hm, if_neg (by omega)]

/-- The bytes of a run are read back. -/
theorem memRead_memWriteRun_inside {m : Memory} {a i : Nat} {b : Byte} {data : List Byte} (hm : m.wf = true)
    (ha : a + data.length ≤ Config.areaBytes) (hb : data[i]? = some b) :
    memRead (memWriteRun m a data) (a + i) = b := by
  induction data generalizing m a i with
  | nil => simp at hb
  | cons v rest ih =>
    simp only [List.length_cons] at ha
    have hw : Memory.wf (memWrite m a v) = true := memWrite_wf hm (by omega)
    cases i with
    | zero =>
      simp only [List.getElem?_cons_zero, Option.some.injEq] at hb
      rw [memWriteRun, memRead_memWriteRun_outside hw (by omega) (by omega), memRead_memWrite hm]
      simp [hb]
    | succ j =>
      rw [memWriteRun, show a + (j + 1) = a + 1 + j by omega]
      exact ih hw (by omega) (by simpa using hb)

/-- Cells elsewhere leave a byte alone. -/
theorem memRead_memWriteCells_outside {m : Memory} {x : Nat} {cells : List Host.Cell} (hm : m.wf = true)
    (hc : ∀ c ∈ cells, c.1 < Config.areaBytes) (hx : ∀ c ∈ cells, c.1 ≠ x) :
    memRead (memWriteCells m cells) x = memRead m x := by
  induction cells generalizing m with
  | nil => rfl
  | cons c rest ih =>
    have hw : Memory.wf (memWrite m c.1 c.2) = true := memWrite_wf hm (hc c (by simp))
    have := ih hw (fun d hd => hc d (by simp [hd])) (fun d hd => hx d (by simp [hd]))
    rw [show memWriteCells m (c :: rest) = memWriteCells (memWrite m c.1 c.2) rest from rfl, this,
      memRead_memWrite hm, if_neg (fun h => hx c (by simp) h.symm)]

/-! ### Slots -/

/-- A slot reads back as it was written; the other one is as it was. -/
@[simp] theorem slot_setSlot (t : Tariff) (id : SlotId) (v : Slot) : (t.setSlot id v).slot id = v := by
  cases id <;> rfl
@[simp] theorem slot_setSlot_other (t : Tariff) (id : SlotId) (v : Slot) :
    (t.setSlot id v).slot id.other = t.slot id.other := by cases id <;> rfl
@[simp] theorem record_setRecord (t : Tariff) (id : SlotId) (v : Option SlotRecord) :
    (t.setRecord id v).record id = v := by cases id <;> rfl
@[simp] theorem record_setRecord_other (t : Tariff) (id : SlotId) (v : Option SlotRecord) :
    (t.setRecord id v).record id.other = t.record id.other := by cases id <;> rfl
@[simp] theorem area_setArea (t : Tariff) (id : SlotId) (v : Memory) : (t.setArea id v).area id = v := by
  cases id <;> rfl
@[simp] theorem area_setArea_other (t : Tariff) (id : SlotId) (v : Memory) :
    (t.setArea id v).area id.other = t.area id.other := by cases id <;> rfl

end Sys2Proof.Laws
end

