-- ==== Sys2Proof/Laws/State.lean ====
section
/-! SUPPORT. What each block update does to each field of the state, so that no proof unfolds an update. -/

namespace Sys2Proof.Machine

@[simp] theorem State.setLoader_loader (s : State) (v : Loader) : (s.setLoader v).loader = v := rfl
@[simp] theorem State.setLoader_lpu (s : State) (v : Loader) : (s.setLoader v).lpu = s.lpu := rfl
@[simp] theorem State.setLoader_table (s : State) (v : Loader) : (s.setLoader v).table = s.table := rfl
@[simp] theorem State.setLoader_wu (s : State) (v : Loader) : (s.setLoader v).wu = s.wu := rfl
@[simp] theorem State.setLoader_inhibit (s : State) (v : Loader) : (s.setLoader v).inhibit = s.inhibit := rfl
@[simp] theorem State.setLoader_tariff (s : State) (v : Loader) : (s.setLoader v).tariff = s.tariff := rfl
@[simp] theorem State.setLoader_rater (s : State) (v : Loader) : (s.setLoader v).rater = s.rater := rfl
@[simp] theorem State.setLoader_cc (s : State) (v : Loader) : (s.setLoader v).cc = s.cc := rfl
@[simp] theorem State.setLoader_au (s : State) (v : Loader) : (s.setLoader v).au = s.au := rfl
@[simp] theorem State.setLoader_ip (s : State) (v : Loader) : (s.setLoader v).ip = s.ip := rfl
@[simp] theorem State.setLoader_lc (s : State) (v : Loader) : (s.setLoader v).lc = s.lc := rfl
@[simp] theorem State.setLoader_pins (s : State) (v : Loader) : (s.setLoader v).pins = s.pins := rfl
@[simp] theorem State.setLoader_free (s : State) (v : Loader) : (s.setLoader v).free = s.free := rfl
@[simp] theorem State.setLoader_pending (s : State) (v : Loader) : (s.setLoader v).pending = s.pending := rfl
@[simp] theorem State.setLoader_setLoader (s : State) (v w : Loader) : (s.setLoader v).setLoader w = s.setLoader w := rfl
@[simp] theorem State.setLoader_self (s : State) : s.setLoader s.loader = s := rfl

@[simp] theorem State.setLpu_loader (s : State) (v : Lpu) : (s.setLpu v).loader = s.loader := rfl
@[simp] theorem State.setLpu_lpu (s : State) (v : Lpu) : (s.setLpu v).lpu = v := rfl
@[simp] theorem State.setLpu_table (s : State) (v : Lpu) : (s.setLpu v).table = s.table := rfl
@[simp] theorem State.setLpu_wu (s : State) (v : Lpu) : (s.setLpu v).wu = s.wu := rfl
@[simp] theorem State.setLpu_inhibit (s : State) (v : Lpu) : (s.setLpu v).inhibit = s.inhibit := rfl
@[simp] theorem State.setLpu_tariff (s : State) (v : Lpu) : (s.setLpu v).tariff = s.tariff := rfl
@[simp] theorem State.setLpu_rater (s : State) (v : Lpu) : (s.setLpu v).rater = s.rater := rfl
@[simp] theorem State.setLpu_cc (s : State) (v : Lpu) : (s.setLpu v).cc = s.cc := rfl
@[simp] theorem State.setLpu_au (s : State) (v : Lpu) : (s.setLpu v).au = s.au := rfl
@[simp] theorem State.setLpu_ip (s : State) (v : Lpu) : (s.setLpu v).ip = s.ip := rfl
@[simp] theorem State.setLpu_lc (s : State) (v : Lpu) : (s.setLpu v).lc = s.lc := rfl
@[simp] theorem State.setLpu_pins (s : State) (v : Lpu) : (s.setLpu v).pins = s.pins := rfl
@[simp] theorem State.setLpu_free (s : State) (v : Lpu) : (s.setLpu v).free = s.free := rfl
@[simp] theorem State.setLpu_pending (s : State) (v : Lpu) : (s.setLpu v).pending = s.pending := rfl
@[simp] theorem State.setLpu_setLpu (s : State) (v w : Lpu) : (s.setLpu v).setLpu w = s.setLpu w := rfl
@[simp] theorem State.setLpu_self (s : State) : s.setLpu s.lpu = s := rfl

@[simp] theorem State.setTable_loader (s : State) (v : Table) : (s.setTable v).loader = s.loader := rfl
@[simp] theorem State.setTable_lpu (s : State) (v : Table) : (s.setTable v).lpu = s.lpu := rfl
@[simp] theorem State.setTable_table (s : State) (v : Table) : (s.setTable v).table = v := rfl
@[simp] theorem State.setTable_wu (s : State) (v : Table) : (s.setTable v).wu = s.wu := rfl
@[simp] theorem State.setTable_inhibit (s : State) (v : Table) : (s.setTable v).inhibit = s.inhibit := rfl
@[simp] theorem State.setTable_tariff (s : State) (v : Table) : (s.setTable v).tariff = s.tariff := rfl
@[simp] theorem State.setTable_rater (s : State) (v : Table) : (s.setTable v).rater = s.rater := rfl
@[simp] theorem State.setTable_cc (s : State) (v : Table) : (s.setTable v).cc = s.cc := rfl
@[simp] theorem State.setTable_au (s : State) (v : Table) : (s.setTable v).au = s.au := rfl
@[simp] theorem State.setTable_ip (s : State) (v : Table) : (s.setTable v).ip = s.ip := rfl
@[simp] theorem State.setTable_lc (s : State) (v : Table) : (s.setTable v).lc = s.lc := rfl
@[simp] theorem State.setTable_pins (s : State) (v : Table) : (s.setTable v).pins = s.pins := rfl
@[simp] theorem State.setTable_free (s : State) (v : Table) : (s.setTable v).free = s.free := rfl
@[simp] theorem State.setTable_pending (s : State) (v : Table) : (s.setTable v).pending = s.pending := rfl
@[simp] theorem State.setTable_setTable (s : State) (v w : Table) : (s.setTable v).setTable w = s.setTable w := rfl
@[simp] theorem State.setTable_self (s : State) : s.setTable s.table = s := rfl

@[simp] theorem State.setWu_loader (s : State) (v : Wu) : (s.setWu v).loader = s.loader := rfl
@[simp] theorem State.setWu_lpu (s : State) (v : Wu) : (s.setWu v).lpu = s.lpu := rfl
@[simp] theorem State.setWu_table (s : State) (v : Wu) : (s.setWu v).table = s.table := rfl
@[simp] theorem State.setWu_wu (s : State) (v : Wu) : (s.setWu v).wu = v := rfl
@[simp] theorem State.setWu_inhibit (s : State) (v : Wu) : (s.setWu v).inhibit = s.inhibit := rfl
@[simp] theorem State.setWu_tariff (s : State) (v : Wu) : (s.setWu v).tariff = s.tariff := rfl
@[simp] theorem State.setWu_rater (s : State) (v : Wu) : (s.setWu v).rater = s.rater := rfl
@[simp] theorem State.setWu_cc (s : State) (v : Wu) : (s.setWu v).cc = s.cc := rfl
@[simp] theorem State.setWu_au (s : State) (v : Wu) : (s.setWu v).au = s.au := rfl
@[simp] theorem State.setWu_ip (s : State) (v : Wu) : (s.setWu v).ip = s.ip := rfl
@[simp] theorem State.setWu_lc (s : State) (v : Wu) : (s.setWu v).lc = s.lc := rfl
@[simp] theorem State.setWu_pins (s : State) (v : Wu) : (s.setWu v).pins = s.pins := rfl
@[simp] theorem State.setWu_free (s : State) (v : Wu) : (s.setWu v).free = s.free := rfl
@[simp] theorem State.setWu_pending (s : State) (v : Wu) : (s.setWu v).pending = s.pending := rfl
@[simp] theorem State.setWu_setWu (s : State) (v w : Wu) : (s.setWu v).setWu w = s.setWu w := rfl
@[simp] theorem State.setWu_self (s : State) : s.setWu s.wu = s := rfl

@[simp] theorem State.setInhibit_loader (s : State) (v : Inhibit) : (s.setInhibit v).loader = s.loader := rfl
@[simp] theorem State.setInhibit_lpu (s : State) (v : Inhibit) : (s.setInhibit v).lpu = s.lpu := rfl
@[simp] theorem State.setInhibit_table (s : State) (v : Inhibit) : (s.setInhibit v).table = s.table := rfl
@[simp] theorem State.setInhibit_wu (s : State) (v : Inhibit) : (s.setInhibit v).wu = s.wu := rfl
@[simp] theorem State.setInhibit_inhibit (s : State) (v : Inhibit) : (s.setInhibit v).inhibit = v := rfl
@[simp] theorem State.setInhibit_tariff (s : State) (v : Inhibit) : (s.setInhibit v).tariff = s.tariff := rfl
@[simp] theorem State.setInhibit_rater (s : State) (v : Inhibit) : (s.setInhibit v).rater = s.rater := rfl
@[simp] theorem State.setInhibit_cc (s : State) (v : Inhibit) : (s.setInhibit v).cc = s.cc := rfl
@[simp] theorem State.setInhibit_au (s : State) (v : Inhibit) : (s.setInhibit v).au = s.au := rfl
@[simp] theorem State.setInhibit_ip (s : State) (v : Inhibit) : (s.setInhibit v).ip = s.ip := rfl
@[simp] theorem State.setInhibit_lc (s : State) (v : Inhibit) : (s.setInhibit v).lc = s.lc := rfl
@[simp] theorem State.setInhibit_pins (s : State) (v : Inhibit) : (s.setInhibit v).pins = s.pins := rfl
@[simp] theorem State.setInhibit_free (s : State) (v : Inhibit) : (s.setInhibit v).free = s.free := rfl
@[simp] theorem State.setInhibit_pending (s : State) (v : Inhibit) : (s.setInhibit v).pending = s.pending := rfl
@[simp] theorem State.setInhibit_setInhibit (s : State) (v w : Inhibit) : (s.setInhibit v).setInhibit w = s.setInhibit w := rfl
@[simp] theorem State.setInhibit_self (s : State) : s.setInhibit s.inhibit = s := rfl

@[simp] theorem State.setTariff_loader (s : State) (v : Tariff) : (s.setTariff v).loader = s.loader := rfl
@[simp] theorem State.setTariff_lpu (s : State) (v : Tariff) : (s.setTariff v).lpu = s.lpu := rfl
@[simp] theorem State.setTariff_table (s : State) (v : Tariff) : (s.setTariff v).table = s.table := rfl
@[simp] theorem State.setTariff_wu (s : State) (v : Tariff) : (s.setTariff v).wu = s.wu := rfl
@[simp] theorem State.setTariff_inhibit (s : State) (v : Tariff) : (s.setTariff v).inhibit = s.inhibit := rfl
@[simp] theorem State.setTariff_tariff (s : State) (v : Tariff) : (s.setTariff v).tariff = v := rfl
@[simp] theorem State.setTariff_rater (s : State) (v : Tariff) : (s.setTariff v).rater = s.rater := rfl
@[simp] theorem State.setTariff_cc (s : State) (v : Tariff) : (s.setTariff v).cc = s.cc := rfl
@[simp] theorem State.setTariff_au (s : State) (v : Tariff) : (s.setTariff v).au = s.au := rfl
@[simp] theorem State.setTariff_ip (s : State) (v : Tariff) : (s.setTariff v).ip = s.ip := rfl
@[simp] theorem State.setTariff_lc (s : State) (v : Tariff) : (s.setTariff v).lc = s.lc := rfl
@[simp] theorem State.setTariff_pins (s : State) (v : Tariff) : (s.setTariff v).pins = s.pins := rfl
@[simp] theorem State.setTariff_free (s : State) (v : Tariff) : (s.setTariff v).free = s.free := rfl
@[simp] theorem State.setTariff_pending (s : State) (v : Tariff) : (s.setTariff v).pending = s.pending := rfl
@[simp] theorem State.setTariff_setTariff (s : State) (v w : Tariff) : (s.setTariff v).setTariff w = s.setTariff w := rfl
@[simp] theorem State.setTariff_self (s : State) : s.setTariff s.tariff = s := rfl

@[simp] theorem State.setRater_loader (s : State) (v : Rater) : (s.setRater v).loader = s.loader := rfl
@[simp] theorem State.setRater_lpu (s : State) (v : Rater) : (s.setRater v).lpu = s.lpu := rfl
@[simp] theorem State.setRater_table (s : State) (v : Rater) : (s.setRater v).table = s.table := rfl
@[simp] theorem State.setRater_wu (s : State) (v : Rater) : (s.setRater v).wu = s.wu := rfl
@[simp] theorem State.setRater_inhibit (s : State) (v : Rater) : (s.setRater v).inhibit = s.inhibit := rfl
@[simp] theorem State.setRater_tariff (s : State) (v : Rater) : (s.setRater v).tariff = s.tariff := rfl
@[simp] theorem State.setRater_rater (s : State) (v : Rater) : (s.setRater v).rater = v := rfl
@[simp] theorem State.setRater_cc (s : State) (v : Rater) : (s.setRater v).cc = s.cc := rfl
@[simp] theorem State.setRater_au (s : State) (v : Rater) : (s.setRater v).au = s.au := rfl
@[simp] theorem State.setRater_ip (s : State) (v : Rater) : (s.setRater v).ip = s.ip := rfl
@[simp] theorem State.setRater_lc (s : State) (v : Rater) : (s.setRater v).lc = s.lc := rfl
@[simp] theorem State.setRater_pins (s : State) (v : Rater) : (s.setRater v).pins = s.pins := rfl
@[simp] theorem State.setRater_free (s : State) (v : Rater) : (s.setRater v).free = s.free := rfl
@[simp] theorem State.setRater_pending (s : State) (v : Rater) : (s.setRater v).pending = s.pending := rfl
@[simp] theorem State.setRater_setRater (s : State) (v w : Rater) : (s.setRater v).setRater w = s.setRater w := rfl
@[simp] theorem State.setRater_self (s : State) : s.setRater s.rater = s := rfl

@[simp] theorem State.setCc_loader (s : State) (v : Claims) : (s.setCc v).loader = s.loader := rfl
@[simp] theorem State.setCc_lpu (s : State) (v : Claims) : (s.setCc v).lpu = s.lpu := rfl
@[simp] theorem State.setCc_table (s : State) (v : Claims) : (s.setCc v).table = s.table := rfl
@[simp] theorem State.setCc_wu (s : State) (v : Claims) : (s.setCc v).wu = s.wu := rfl
@[simp] theorem State.setCc_inhibit (s : State) (v : Claims) : (s.setCc v).inhibit = s.inhibit := rfl
@[simp] theorem State.setCc_tariff (s : State) (v : Claims) : (s.setCc v).tariff = s.tariff := rfl
@[simp] theorem State.setCc_rater (s : State) (v : Claims) : (s.setCc v).rater = s.rater := rfl
@[simp] theorem State.setCc_cc (s : State) (v : Claims) : (s.setCc v).cc = v := rfl
@[simp] theorem State.setCc_au (s : State) (v : Claims) : (s.setCc v).au = s.au := rfl
@[simp] theorem State.setCc_ip (s : State) (v : Claims) : (s.setCc v).ip = s.ip := rfl
@[simp] theorem State.setCc_lc (s : State) (v : Claims) : (s.setCc v).lc = s.lc := rfl
@[simp] theorem State.setCc_pins (s : State) (v : Claims) : (s.setCc v).pins = s.pins := rfl
@[simp] theorem State.setCc_free (s : State) (v : Claims) : (s.setCc v).free = s.free := rfl
@[simp] theorem State.setCc_pending (s : State) (v : Claims) : (s.setCc v).pending = s.pending := rfl
@[simp] theorem State.setCc_setCc (s : State) (v w : Claims) : (s.setCc v).setCc w = s.setCc w := rfl
@[simp] theorem State.setCc_self (s : State) : s.setCc s.cc = s := rfl

@[simp] theorem State.setAu_loader (s : State) (v : Account) : (s.setAu v).loader = s.loader := rfl
@[simp] theorem State.setAu_lpu (s : State) (v : Account) : (s.setAu v).lpu = s.lpu := rfl
@[simp] theorem State.setAu_table (s : State) (v : Account) : (s.setAu v).table = s.table := rfl
@[simp] theorem State.setAu_wu (s : State) (v : Account) : (s.setAu v).wu = s.wu := rfl
@[simp] theorem State.setAu_inhibit (s : State) (v : Account) : (s.setAu v).inhibit = s.inhibit := rfl
@[simp] theorem State.setAu_tariff (s : State) (v : Account) : (s.setAu v).tariff = s.tariff := rfl
@[simp] theorem State.setAu_rater (s : State) (v : Account) : (s.setAu v).rater = s.rater := rfl
@[simp] theorem State.setAu_cc (s : State) (v : Account) : (s.setAu v).cc = s.cc := rfl
@[simp] theorem State.setAu_au (s : State) (v : Account) : (s.setAu v).au = v := rfl
@[simp] theorem State.setAu_ip (s : State) (v : Account) : (s.setAu v).ip = s.ip := rfl
@[simp] theorem State.setAu_lc (s : State) (v : Account) : (s.setAu v).lc = s.lc := rfl
@[simp] theorem State.setAu_pins (s : State) (v : Account) : (s.setAu v).pins = s.pins := rfl
@[simp] theorem State.setAu_free (s : State) (v : Account) : (s.setAu v).free = s.free := rfl
@[simp] theorem State.setAu_pending (s : State) (v : Account) : (s.setAu v).pending = s.pending := rfl
@[simp] theorem State.setAu_setAu (s : State) (v w : Account) : (s.setAu v).setAu w = s.setAu w := rfl
@[simp] theorem State.setAu_self (s : State) : s.setAu s.au = s := rfl

@[simp] theorem State.setIp_loader (s : State) (v : Printer) : (s.setIp v).loader = s.loader := rfl
@[simp] theorem State.setIp_lpu (s : State) (v : Printer) : (s.setIp v).lpu = s.lpu := rfl
@[simp] theorem State.setIp_table (s : State) (v : Printer) : (s.setIp v).table = s.table := rfl
@[simp] theorem State.setIp_wu (s : State) (v : Printer) : (s.setIp v).wu = s.wu := rfl
@[simp] theorem State.setIp_inhibit (s : State) (v : Printer) : (s.setIp v).inhibit = s.inhibit := rfl
@[simp] theorem State.setIp_tariff (s : State) (v : Printer) : (s.setIp v).tariff = s.tariff := rfl
@[simp] theorem State.setIp_rater (s : State) (v : Printer) : (s.setIp v).rater = s.rater := rfl
@[simp] theorem State.setIp_cc (s : State) (v : Printer) : (s.setIp v).cc = s.cc := rfl
@[simp] theorem State.setIp_au (s : State) (v : Printer) : (s.setIp v).au = s.au := rfl
@[simp] theorem State.setIp_ip (s : State) (v : Printer) : (s.setIp v).ip = v := rfl
@[simp] theorem State.setIp_lc (s : State) (v : Printer) : (s.setIp v).lc = s.lc := rfl
@[simp] theorem State.setIp_pins (s : State) (v : Printer) : (s.setIp v).pins = s.pins := rfl
@[simp] theorem State.setIp_free (s : State) (v : Printer) : (s.setIp v).free = s.free := rfl
@[simp] theorem State.setIp_pending (s : State) (v : Printer) : (s.setIp v).pending = s.pending := rfl
@[simp] theorem State.setIp_setIp (s : State) (v w : Printer) : (s.setIp v).setIp w = s.setIp w := rfl
@[simp] theorem State.setIp_self (s : State) : s.setIp s.ip = s := rfl

@[simp] theorem State.setLc_loader (s : State) (v : Link) : (s.setLc v).loader = s.loader := rfl
@[simp] theorem State.setLc_lpu (s : State) (v : Link) : (s.setLc v).lpu = s.lpu := rfl
@[simp] theorem State.setLc_table (s : State) (v : Link) : (s.setLc v).table = s.table := rfl
@[simp] theorem State.setLc_wu (s : State) (v : Link) : (s.setLc v).wu = s.wu := rfl
@[simp] theorem State.setLc_inhibit (s : State) (v : Link) : (s.setLc v).inhibit = s.inhibit := rfl
@[simp] theorem State.setLc_tariff (s : State) (v : Link) : (s.setLc v).tariff = s.tariff := rfl
@[simp] theorem State.setLc_rater (s : State) (v : Link) : (s.setLc v).rater = s.rater := rfl
@[simp] theorem State.setLc_cc (s : State) (v : Link) : (s.setLc v).cc = s.cc := rfl
@[simp] theorem State.setLc_au (s : State) (v : Link) : (s.setLc v).au = s.au := rfl
@[simp] theorem State.setLc_ip (s : State) (v : Link) : (s.setLc v).ip = s.ip := rfl
@[simp] theorem State.setLc_lc (s : State) (v : Link) : (s.setLc v).lc = v := rfl
@[simp] theorem State.setLc_pins (s : State) (v : Link) : (s.setLc v).pins = s.pins := rfl
@[simp] theorem State.setLc_free (s : State) (v : Link) : (s.setLc v).free = s.free := rfl
@[simp] theorem State.setLc_pending (s : State) (v : Link) : (s.setLc v).pending = s.pending := rfl
@[simp] theorem State.setLc_setLc (s : State) (v w : Link) : (s.setLc v).setLc w = s.setLc w := rfl
@[simp] theorem State.setLc_self (s : State) : s.setLc s.lc = s := rfl

@[simp] theorem State.setPins_loader (s : State) (v : Pins) : (s.setPins v).loader = s.loader := rfl
@[simp] theorem State.setPins_lpu (s : State) (v : Pins) : (s.setPins v).lpu = s.lpu := rfl
@[simp] theorem State.setPins_table (s : State) (v : Pins) : (s.setPins v).table = s.table := rfl
@[simp] theorem State.setPins_wu (s : State) (v : Pins) : (s.setPins v).wu = s.wu := rfl
@[simp] theorem State.setPins_inhibit (s : State) (v : Pins) : (s.setPins v).inhibit = s.inhibit := rfl
@[simp] theorem State.setPins_tariff (s : State) (v : Pins) : (s.setPins v).tariff = s.tariff := rfl
@[simp] theorem State.setPins_rater (s : State) (v : Pins) : (s.setPins v).rater = s.rater := rfl
@[simp] theorem State.setPins_cc (s : State) (v : Pins) : (s.setPins v).cc = s.cc := rfl
@[simp] theorem State.setPins_au (s : State) (v : Pins) : (s.setPins v).au = s.au := rfl
@[simp] theorem State.setPins_ip (s : State) (v : Pins) : (s.setPins v).ip = s.ip := rfl
@[simp] theorem State.setPins_lc (s : State) (v : Pins) : (s.setPins v).lc = s.lc := rfl
@[simp] theorem State.setPins_pins (s : State) (v : Pins) : (s.setPins v).pins = v := rfl
@[simp] theorem State.setPins_free (s : State) (v : Pins) : (s.setPins v).free = s.free := rfl
@[simp] theorem State.setPins_pending (s : State) (v : Pins) : (s.setPins v).pending = s.pending := rfl
@[simp] theorem State.setPins_setPins (s : State) (v w : Pins) : (s.setPins v).setPins w = s.setPins w := rfl
@[simp] theorem State.setPins_self (s : State) : s.setPins s.pins = s := rfl

@[simp] theorem State.setFree_loader (s : State) (v : Nat) : (s.setFree v).loader = s.loader := rfl
@[simp] theorem State.setFree_lpu (s : State) (v : Nat) : (s.setFree v).lpu = s.lpu := rfl
@[simp] theorem State.setFree_table (s : State) (v : Nat) : (s.setFree v).table = s.table := rfl
@[simp] theorem State.setFree_wu (s : State) (v : Nat) : (s.setFree v).wu = s.wu := rfl
@[simp] theorem State.setFree_inhibit (s : State) (v : Nat) : (s.setFree v).inhibit = s.inhibit := rfl
@[simp] theorem State.setFree_tariff (s : State) (v : Nat) : (s.setFree v).tariff = s.tariff := rfl
@[simp] theorem State.setFree_rater (s : State) (v : Nat) : (s.setFree v).rater = s.rater := rfl
@[simp] theorem State.setFree_cc (s : State) (v : Nat) : (s.setFree v).cc = s.cc := rfl
@[simp] theorem State.setFree_au (s : State) (v : Nat) : (s.setFree v).au = s.au := rfl
@[simp] theorem State.setFree_ip (s : State) (v : Nat) : (s.setFree v).ip = s.ip := rfl
@[simp] theorem State.setFree_lc (s : State) (v : Nat) : (s.setFree v).lc = s.lc := rfl
@[simp] theorem State.setFree_pins (s : State) (v : Nat) : (s.setFree v).pins = s.pins := rfl
@[simp] theorem State.setFree_free (s : State) (v : Nat) : (s.setFree v).free = v := rfl
@[simp] theorem State.setFree_pending (s : State) (v : Nat) : (s.setFree v).pending = s.pending := rfl
@[simp] theorem State.setFree_setFree (s : State) (v w : Nat) : (s.setFree v).setFree w = s.setFree w := rfl
@[simp] theorem State.setFree_self (s : State) : s.setFree s.free = s := rfl

@[simp] theorem State.setPending_loader (s : State) (v : List Instr) : (s.setPending v).loader = s.loader := rfl
@[simp] theorem State.setPending_lpu (s : State) (v : List Instr) : (s.setPending v).lpu = s.lpu := rfl
@[simp] theorem State.setPending_table (s : State) (v : List Instr) : (s.setPending v).table = s.table := rfl
@[simp] theorem State.setPending_wu (s : State) (v : List Instr) : (s.setPending v).wu = s.wu := rfl
@[simp] theorem State.setPending_inhibit (s : State) (v : List Instr) : (s.setPending v).inhibit = s.inhibit := rfl
@[simp] theorem State.setPending_tariff (s : State) (v : List Instr) : (s.setPending v).tariff = s.tariff := rfl
@[simp] theorem State.setPending_rater (s : State) (v : List Instr) : (s.setPending v).rater = s.rater := rfl
@[simp] theorem State.setPending_cc (s : State) (v : List Instr) : (s.setPending v).cc = s.cc := rfl
@[simp] theorem State.setPending_au (s : State) (v : List Instr) : (s.setPending v).au = s.au := rfl
@[simp] theorem State.setPending_ip (s : State) (v : List Instr) : (s.setPending v).ip = s.ip := rfl
@[simp] theorem State.setPending_lc (s : State) (v : List Instr) : (s.setPending v).lc = s.lc := rfl
@[simp] theorem State.setPending_pins (s : State) (v : List Instr) : (s.setPending v).pins = s.pins := rfl
@[simp] theorem State.setPending_free (s : State) (v : List Instr) : (s.setPending v).free = s.free := rfl
@[simp] theorem State.setPending_pending (s : State) (v : List Instr) : (s.setPending v).pending = v := rfl
@[simp] theorem State.setPending_setPending (s : State) (v w : List Instr) : (s.setPending v).setPending w = s.setPending w := rfl
@[simp] theorem State.setPending_self (s : State) : s.setPending s.pending = s := rfl

end Sys2Proof.Machine
end

