-- ==== Sys2Proof/Laws/Ops.lean ====
section
/-! SUPPORT. What the named operations leave alone, and one lemma for each of the shared ones that says what it can
do. -/

namespace Sys2Proof.Machine

/-! ### What the part reads of a state, through the block updates -/

@[simp] theorem State.setLpu_running (s : State) (v : Lpu) : (s.setLpu v).running = s.running := rfl
@[simp] theorem State.setTable_running (s : State) (v : Table) : (s.setTable v).running = s.running := rfl
@[simp] theorem State.setWu_running (s : State) (v : Wu) : (s.setWu v).running = s.running := rfl
@[simp] theorem State.setInhibit_running (s : State) (v : Inhibit) : (s.setInhibit v).running = s.running := rfl
@[simp] theorem State.setTariff_running (s : State) (v : Tariff) : (s.setTariff v).running = s.running := rfl
@[simp] theorem State.setRater_running (s : State) (v : Rater) : (s.setRater v).running = s.running := rfl
@[simp] theorem State.setCc_running (s : State) (v : Claims) : (s.setCc v).running = s.running := rfl
@[simp] theorem State.setAu_running (s : State) (v : Account) : (s.setAu v).running = s.running := rfl
@[simp] theorem State.setIp_running (s : State) (v : Printer) : (s.setIp v).running = s.running := rfl
@[simp] theorem State.setLc_running (s : State) (v : Link) : (s.setLc v).running = s.running := rfl
@[simp] theorem State.setPins_running (s : State) (v : Pins) : (s.setPins v).running = s.running := rfl
@[simp] theorem State.setFree_running (s : State) (v : Nat) : (s.setFree v).running = s.running := rfl
@[simp] theorem State.setPending_running (s : State) (v : List Instr) : (s.setPending v).running = s.running := rfl

@[simp] theorem State.setLpu_inService (s : State) (v : Lpu) : (s.setLpu v).inService = s.inService := rfl
@[simp] theorem State.setTable_inService (s : State) (v : Table) : (s.setTable v).inService = s.inService := rfl
@[simp] theorem State.setWu_inService (s : State) (v : Wu) : (s.setWu v).inService = s.inService := rfl
@[simp] theorem State.setInhibit_inService (s : State) (v : Inhibit) : (s.setInhibit v).inService = s.inService := rfl
@[simp] theorem State.setTariff_inService (s : State) (v : Tariff) : (s.setTariff v).inService = s.inService := rfl
@[simp] theorem State.setRater_inService (s : State) (v : Rater) : (s.setRater v).inService = s.inService := rfl
@[simp] theorem State.setCc_inService (s : State) (v : Claims) : (s.setCc v).inService = s.inService := rfl
@[simp] theorem State.setAu_inService (s : State) (v : Account) : (s.setAu v).inService = s.inService := rfl
@[simp] theorem State.setIp_inService (s : State) (v : Printer) : (s.setIp v).inService = s.inService := rfl
@[simp] theorem State.setLc_inService (s : State) (v : Link) : (s.setLc v).inService = s.inService := rfl
@[simp] theorem State.setPins_inService (s : State) (v : Pins) : (s.setPins v).inService = s.inService := rfl
@[simp] theorem State.setFree_inService (s : State) (v : Nat) : (s.setFree v).inService = s.inService := rfl
@[simp] theorem State.setPending_inService (s : State) (v : List Instr) : (s.setPending v).inService = s.inService := rfl

@[simp] theorem State.setLpu_started (s : State) (v : Lpu) : (s.setLpu v).started = s.started := rfl
@[simp] theorem State.setTable_started (s : State) (v : Table) : (s.setTable v).started = s.started := rfl
@[simp] theorem State.setWu_started (s : State) (v : Wu) : (s.setWu v).started = s.started := rfl
@[simp] theorem State.setInhibit_started (s : State) (v : Inhibit) : (s.setInhibit v).started = s.started := rfl
@[simp] theorem State.setTariff_started (s : State) (v : Tariff) : (s.setTariff v).started = s.started := rfl
@[simp] theorem State.setRater_started (s : State) (v : Rater) : (s.setRater v).started = s.started := rfl
@[simp] theorem State.setCc_started (s : State) (v : Claims) : (s.setCc v).started = s.started := rfl
@[simp] theorem State.setAu_started (s : State) (v : Account) : (s.setAu v).started = s.started := rfl
@[simp] theorem State.setIp_started (s : State) (v : Printer) : (s.setIp v).started = s.started := rfl
@[simp] theorem State.setLc_started (s : State) (v : Link) : (s.setLc v).started = s.started := rfl
@[simp] theorem State.setPins_started (s : State) (v : Pins) : (s.setPins v).started = s.started := rfl
@[simp] theorem State.setFree_started (s : State) (v : Nat) : (s.setFree v).started = s.started := rfl
@[simp] theorem State.setPending_started (s : State) (v : List Instr) : (s.setPending v).started = s.started := rfl

@[simp] theorem State.setLpu_inStartUp (s : State) (v : Lpu) : (s.setLpu v).inStartUp = s.inStartUp := rfl
@[simp] theorem State.setTable_inStartUp (s : State) (v : Table) : (s.setTable v).inStartUp = s.inStartUp := rfl
@[simp] theorem State.setWu_inStartUp (s : State) (v : Wu) : (s.setWu v).inStartUp = s.inStartUp := rfl
@[simp] theorem State.setInhibit_inStartUp (s : State) (v : Inhibit) : (s.setInhibit v).inStartUp = s.inStartUp := rfl
@[simp] theorem State.setTariff_inStartUp (s : State) (v : Tariff) : (s.setTariff v).inStartUp = s.inStartUp := rfl
@[simp] theorem State.setRater_inStartUp (s : State) (v : Rater) : (s.setRater v).inStartUp = s.inStartUp := rfl
@[simp] theorem State.setCc_inStartUp (s : State) (v : Claims) : (s.setCc v).inStartUp = s.inStartUp := rfl
@[simp] theorem State.setAu_inStartUp (s : State) (v : Account) : (s.setAu v).inStartUp = s.inStartUp := rfl
@[simp] theorem State.setIp_inStartUp (s : State) (v : Printer) : (s.setIp v).inStartUp = s.inStartUp := rfl
@[simp] theorem State.setLc_inStartUp (s : State) (v : Link) : (s.setLc v).inStartUp = s.inStartUp := rfl
@[simp] theorem State.setPins_inStartUp (s : State) (v : Pins) : (s.setPins v).inStartUp = s.inStartUp := rfl
@[simp] theorem State.setFree_inStartUp (s : State) (v : Nat) : (s.setFree v).inStartUp = s.inStartUp := rfl
@[simp] theorem State.setPending_inStartUp (s : State) (v : List Instr) : (s.setPending v).inStartUp = s.inStartUp := rfl

@[simp] theorem State.setLpu_eligible (s : State) (v : Lpu) : (s.setLpu v).eligible = s.eligible := rfl
@[simp] theorem State.setTable_eligible (s : State) (v : Table) : (s.setTable v).eligible = s.eligible := rfl
@[simp] theorem State.setWu_eligible (s : State) (v : Wu) : (s.setWu v).eligible = s.eligible := rfl
@[simp] theorem State.setTariff_eligible (s : State) (v : Tariff) : (s.setTariff v).eligible = s.eligible := rfl
@[simp] theorem State.setRater_eligible (s : State) (v : Rater) : (s.setRater v).eligible = s.eligible := rfl
@[simp] theorem State.setCc_eligible (s : State) (v : Claims) : (s.setCc v).eligible = s.eligible := rfl
@[simp] theorem State.setAu_eligible (s : State) (v : Account) : (s.setAu v).eligible = s.eligible := rfl
@[simp] theorem State.setIp_eligible (s : State) (v : Printer) : (s.setIp v).eligible = s.eligible := rfl
@[simp] theorem State.setLc_eligible (s : State) (v : Link) : (s.setLc v).eligible = s.eligible := rfl
@[simp] theorem State.setPins_eligible (s : State) (v : Pins) : (s.setPins v).eligible = s.eligible := rfl
@[simp] theorem State.setFree_eligible (s : State) (v : Nat) : (s.setFree v).eligible = s.eligible := rfl
@[simp] theorem State.setPending_eligible (s : State) (v : List Instr) : (s.setPending v).eligible = s.eligible := rfl

@[simp] theorem State.setLpu_isTail (s : State) (v : Lpu) : (s.setLpu v).isTail = s.isTail := rfl
@[simp] theorem State.setTable_isTail (s : State) (v : Table) : (s.setTable v).isTail = s.isTail := rfl
@[simp] theorem State.setWu_isTail (s : State) (v : Wu) : (s.setWu v).isTail = s.isTail := rfl
@[simp] theorem State.setInhibit_isTail (s : State) (v : Inhibit) : (s.setInhibit v).isTail = s.isTail := rfl
@[simp] theorem State.setTariff_isTail (s : State) (v : Tariff) : (s.setTariff v).isTail = s.isTail := rfl
@[simp] theorem State.setRater_isTail (s : State) (v : Rater) : (s.setRater v).isTail = s.isTail := rfl
@[simp] theorem State.setAu_isTail (s : State) (v : Account) : (s.setAu v).isTail = s.isTail := rfl
@[simp] theorem State.setIp_isTail (s : State) (v : Printer) : (s.setIp v).isTail = s.isTail := rfl
@[simp] theorem State.setLc_isTail (s : State) (v : Link) : (s.setLc v).isTail = s.isTail := rfl
@[simp] theorem State.setPins_isTail (s : State) (v : Pins) : (s.setPins v).isTail = s.isTail := rfl
@[simp] theorem State.setFree_isTail (s : State) (v : Nat) : (s.setFree v).isTail = s.isTail := rfl
@[simp] theorem State.setPending_isTail (s : State) (v : List Instr) : (s.setPending v).isTail = s.isTail := rfl

@[simp] theorem State.setLoader_hasRoom (s : State) (v : Loader) (n : Nat) : (s.setLoader v).hasRoom n = s.hasRoom n := rfl
@[simp] theorem State.setLpu_hasRoom (s : State) (v : Lpu) (n : Nat) : (s.setLpu v).hasRoom n = s.hasRoom n := rfl
@[simp] theorem State.setTable_hasRoom (s : State) (v : Table) (n : Nat) : (s.setTable v).hasRoom n = s.hasRoom n := rfl
@[simp] theorem State.setWu_hasRoom (s : State) (v : Wu) (n : Nat) : (s.setWu v).hasRoom n = s.hasRoom n := rfl
@[simp] theorem State.setInhibit_hasRoom (s : State) (v : Inhibit) (n : Nat) : (s.setInhibit v).hasRoom n = s.hasRoom n := rfl
@[simp] theorem State.setTariff_hasRoom (s : State) (v : Tariff) (n : Nat) : (s.setTariff v).hasRoom n = s.hasRoom n := rfl
@[simp] theorem State.setRater_hasRoom (s : State) (v : Rater) (n : Nat) : (s.setRater v).hasRoom n = s.hasRoom n := rfl
@[simp] theorem State.setCc_hasRoom (s : State) (v : Claims) (n : Nat) : (s.setCc v).hasRoom n = s.hasRoom n := rfl
@[simp] theorem State.setAu_hasRoom (s : State) (v : Account) (n : Nat) : (s.setAu v).hasRoom n = s.hasRoom n := rfl
@[simp] theorem State.setIp_hasRoom (s : State) (v : Printer) (n : Nat) : (s.setIp v).hasRoom n = s.hasRoom n := rfl
@[simp] theorem State.setPins_hasRoom (s : State) (v : Pins) (n : Nat) : (s.setPins v).hasRoom n = s.hasRoom n := rfl
@[simp] theorem State.setFree_hasRoom (s : State) (v : Nat) (n : Nat) : (s.setFree v).hasRoom n = s.hasRoom n := rfl
@[simp] theorem State.setPending_hasRoom (s : State) (v : List Instr) (n : Nat) : (s.setPending v).hasRoom n = s.hasRoom n := rfl

@[simp] theorem State.setLoader_record (s : State) (v : Loader) (k : Pos) : (s.setLoader v).record k = s.record k := rfl
@[simp] theorem State.setLpu_record (s : State) (v : Lpu) (k : Pos) : (s.setLpu v).record k = s.record k := rfl
@[simp] theorem State.setWu_record (s : State) (v : Wu) (k : Pos) : (s.setWu v).record k = s.record k := rfl
@[simp] theorem State.setInhibit_record (s : State) (v : Inhibit) (k : Pos) : (s.setInhibit v).record k = s.record k := rfl
@[simp] theorem State.setTariff_record (s : State) (v : Tariff) (k : Pos) : (s.setTariff v).record k = s.record k := rfl
@[simp] theorem State.setRater_record (s : State) (v : Rater) (k : Pos) : (s.setRater v).record k = s.record k := rfl
@[simp] theorem State.setCc_record (s : State) (v : Claims) (k : Pos) : (s.setCc v).record k = s.record k := rfl
@[simp] theorem State.setAu_record (s : State) (v : Account) (k : Pos) : (s.setAu v).record k = s.record k := rfl
@[simp] theorem State.setIp_record (s : State) (v : Printer) (k : Pos) : (s.setIp v).record k = s.record k := rfl
@[simp] theorem State.setLc_record (s : State) (v : Link) (k : Pos) : (s.setLc v).record k = s.record k := rfl
@[simp] theorem State.setPins_record (s : State) (v : Pins) (k : Pos) : (s.setPins v).record k = s.record k := rfl
@[simp] theorem State.setFree_record (s : State) (v : Nat) (k : Pos) : (s.setFree v).record k = s.record k := rfl
@[simp] theorem State.setPending_record (s : State) (v : List Instr) (k : Pos) : (s.setPending v).record k = s.record k := rfl

@[simp] theorem State.setLpu_matching (s : State) (v : Lpu) (k : Pos) : (s.setLpu v).matching k = s.matching k := rfl
@[simp] theorem State.setWu_matching (s : State) (v : Wu) (k : Pos) : (s.setWu v).matching k = s.matching k := rfl
@[simp] theorem State.setInhibit_matching (s : State) (v : Inhibit) (k : Pos) : (s.setInhibit v).matching k = s.matching k := rfl
@[simp] theorem State.setTariff_matching (s : State) (v : Tariff) (k : Pos) : (s.setTariff v).matching k = s.matching k := rfl
@[simp] theorem State.setRater_matching (s : State) (v : Rater) (k : Pos) : (s.setRater v).matching k = s.matching k := rfl
@[simp] theorem State.setCc_matching (s : State) (v : Claims) (k : Pos) : (s.setCc v).matching k = s.matching k := rfl
@[simp] theorem State.setAu_matching (s : State) (v : Account) (k : Pos) : (s.setAu v).matching k = s.matching k := rfl
@[simp] theorem State.setIp_matching (s : State) (v : Printer) (k : Pos) : (s.setIp v).matching k = s.matching k := rfl
@[simp] theorem State.setLc_matching (s : State) (v : Link) (k : Pos) : (s.setLc v).matching k = s.matching k := rfl
@[simp] theorem State.setPins_matching (s : State) (v : Pins) (k : Pos) : (s.setPins v).matching k = s.matching k := rfl
@[simp] theorem State.setFree_matching (s : State) (v : Nat) (k : Pos) : (s.setFree v).matching k = s.matching k := rfl
@[simp] theorem State.setPending_matching (s : State) (v : List Instr) (k : Pos) : (s.setPending v).matching k = s.matching k := rfl

@[simp] theorem State.setLoader_sending (s : State) (v : Loader) : (s.setLoader v).sending = s.sending := rfl
@[simp] theorem State.setLpu_sending (s : State) (v : Lpu) : (s.setLpu v).sending = s.sending := rfl
@[simp] theorem State.setTable_sending (s : State) (v : Table) : (s.setTable v).sending = s.sending := rfl
@[simp] theorem State.setWu_sending (s : State) (v : Wu) : (s.setWu v).sending = s.sending := rfl
@[simp] theorem State.setInhibit_sending (s : State) (v : Inhibit) : (s.setInhibit v).sending = s.sending := rfl
@[simp] theorem State.setTariff_sending (s : State) (v : Tariff) : (s.setTariff v).sending = s.sending := rfl
@[simp] theorem State.setRater_sending (s : State) (v : Rater) : (s.setRater v).sending = s.sending := rfl
@[simp] theorem State.setCc_sending (s : State) (v : Claims) : (s.setCc v).sending = s.sending := rfl
@[simp] theorem State.setAu_sending (s : State) (v : Account) : (s.setAu v).sending = s.sending := rfl
@[simp] theorem State.setIp_sending (s : State) (v : Printer) : (s.setIp v).sending = s.sending := rfl
@[simp] theorem State.setPins_sending (s : State) (v : Pins) : (s.setPins v).sending = s.sending := rfl
@[simp] theorem State.setFree_sending (s : State) (v : Nat) : (s.setFree v).sending = s.sending := rfl
@[simp] theorem State.setPending_sending (s : State) (v : List Instr) : (s.setPending v).sending = s.sending := rfl

/-! ### Operations that change one block -/

@[simp] theorem updateRecord_loader (s : State) (k : Pos) (f : Record → Record) : (s.updateRecord k f).loader = s.loader := rfl
@[simp] theorem updateRecord_lpu (s : State) (k : Pos) (f : Record → Record) : (s.updateRecord k f).lpu = s.lpu := rfl
@[simp] theorem updateRecord_wu (s : State) (k : Pos) (f : Record → Record) : (s.updateRecord k f).wu = s.wu := rfl
@[simp] theorem updateRecord_inhibit (s : State) (k : Pos) (f : Record → Record) : (s.updateRecord k f).inhibit = s.inhibit := rfl
@[simp] theorem updateRecord_tariff (s : State) (k : Pos) (f : Record → Record) : (s.updateRecord k f).tariff = s.tariff := rfl
@[simp] theorem updateRecord_rater (s : State) (k : Pos) (f : Record → Record) : (s.updateRecord k f).rater = s.rater := rfl
@[simp] theorem updateRecord_cc (s : State) (k : Pos) (f : Record → Record) : (s.updateRecord k f).cc = s.cc := rfl
@[simp] theorem updateRecord_au (s : State) (k : Pos) (f : Record → Record) : (s.updateRecord k f).au = s.au := rfl
@[simp] theorem updateRecord_ip (s : State) (k : Pos) (f : Record → Record) : (s.updateRecord k f).ip = s.ip := rfl
@[simp] theorem updateRecord_lc (s : State) (k : Pos) (f : Record → Record) : (s.updateRecord k f).lc = s.lc := rfl
@[simp] theorem updateRecord_pins (s : State) (k : Pos) (f : Record → Record) : (s.updateRecord k f).pins = s.pins := rfl
@[simp] theorem updateRecord_free (s : State) (k : Pos) (f : Record → Record) : (s.updateRecord k f).free = s.free := rfl
@[simp] theorem updateRecord_pending (s : State) (k : Pos) (f : Record → Record) : (s.updateRecord k f).pending = s.pending := rfl
@[simp] theorem updateRecord_running (s : State) (k : Pos) (f : Record → Record) : (s.updateRecord k f).running = s.running := rfl
@[simp] theorem updateRecord_inService (s : State) (k : Pos) (f : Record → Record) : (s.updateRecord k f).inService = s.inService := rfl
@[simp] theorem updateRecord_started (s : State) (k : Pos) (f : Record → Record) : (s.updateRecord k f).started = s.started := rfl
@[simp] theorem updateRecord_inStartUp (s : State) (k : Pos) (f : Record → Record) : (s.updateRecord k f).inStartUp = s.inStartUp := rfl
@[simp] theorem updateRecord_eligible (s : State) (k : Pos) (f : Record → Record) : (s.updateRecord k f).eligible = s.eligible := rfl
@[simp] theorem updateRecord_isTail (s : State) (k : Pos) (f : Record → Record) : (s.updateRecord k f).isTail = s.isTail := rfl
@[simp] theorem updateRecord_hasRoom (s : State) (k : Pos) (f : Record → Record) (n : Nat) : (s.updateRecord k f).hasRoom n = s.hasRoom n := rfl
@[simp] theorem updateRecord_sending (s : State) (k : Pos) (f : Record → Record) : (s.updateRecord k f).sending = s.sending := rfl

@[simp] theorem insertRecord_loader (s : State) (r : Record) : (s.insertRecord r).loader = s.loader := rfl
@[simp] theorem insertRecord_lpu (s : State) (r : Record) : (s.insertRecord r).lpu = s.lpu := rfl
@[simp] theorem insertRecord_wu (s : State) (r : Record) : (s.insertRecord r).wu = s.wu := rfl
@[simp] theorem insertRecord_inhibit (s : State) (r : Record) : (s.insertRecord r).inhibit = s.inhibit := rfl
@[simp] theorem insertRecord_tariff (s : State) (r : Record) : (s.insertRecord r).tariff = s.tariff := rfl
@[simp] theorem insertRecord_rater (s : State) (r : Record) : (s.insertRecord r).rater = s.rater := rfl
@[simp] theorem insertRecord_cc (s : State) (r : Record) : (s.insertRecord r).cc = s.cc := rfl
@[simp] theorem insertRecord_au (s : State) (r : Record) : (s.insertRecord r).au = s.au := rfl
@[simp] theorem insertRecord_ip (s : State) (r : Record) : (s.insertRecord r).ip = s.ip := rfl
@[simp] theorem insertRecord_lc (s : State) (r : Record) : (s.insertRecord r).lc = s.lc := rfl
@[simp] theorem insertRecord_pins (s : State) (r : Record) : (s.insertRecord r).pins = s.pins := rfl
@[simp] theorem insertRecord_free (s : State) (r : Record) : (s.insertRecord r).free = s.free := rfl
@[simp] theorem insertRecord_pending (s : State) (r : Record) : (s.insertRecord r).pending = s.pending := rfl
@[simp] theorem insertRecord_running (s : State) (r : Record) : (s.insertRecord r).running = s.running := rfl
@[simp] theorem insertRecord_inService (s : State) (r : Record) : (s.insertRecord r).inService = s.inService := rfl
@[simp] theorem insertRecord_started (s : State) (r : Record) : (s.insertRecord r).started = s.started := rfl
@[simp] theorem insertRecord_inStartUp (s : State) (r : Record) : (s.insertRecord r).inStartUp = s.inStartUp := rfl
@[simp] theorem insertRecord_eligible (s : State) (r : Record) : (s.insertRecord r).eligible = s.eligible := rfl
@[simp] theorem insertRecord_isTail (s : State) (r : Record) : (s.insertRecord r).isTail = s.isTail := rfl
@[simp] theorem insertRecord_hasRoom (s : State) (r : Record) (n : Nat) : (s.insertRecord r).hasRoom n = s.hasRoom n := rfl
@[simp] theorem insertRecord_sending (s : State) (r : Record) : (s.insertRecord r).sending = s.sending := rfl

@[simp] theorem reorder_loader (s : State) : (reorder s).loader = s.loader := rfl
@[simp] theorem reorder_lpu (s : State) : (reorder s).lpu = s.lpu := rfl
@[simp] theorem reorder_wu (s : State) : (reorder s).wu = s.wu := rfl
@[simp] theorem reorder_inhibit (s : State) : (reorder s).inhibit = s.inhibit := rfl
@[simp] theorem reorder_tariff (s : State) : (reorder s).tariff = s.tariff := rfl
@[simp] theorem reorder_rater (s : State) : (reorder s).rater = s.rater := rfl
@[simp] theorem reorder_cc (s : State) : (reorder s).cc = s.cc := rfl
@[simp] theorem reorder_au (s : State) : (reorder s).au = s.au := rfl
@[simp] theorem reorder_ip (s : State) : (reorder s).ip = s.ip := rfl
@[simp] theorem reorder_lc (s : State) : (reorder s).lc = s.lc := rfl
@[simp] theorem reorder_pins (s : State) : (reorder s).pins = s.pins := rfl
@[simp] theorem reorder_free (s : State) : (reorder s).free = s.free := rfl
@[simp] theorem reorder_pending (s : State) : (reorder s).pending = s.pending := rfl
@[simp] theorem reorder_running (s : State) : (reorder s).running = s.running := rfl
@[simp] theorem reorder_inService (s : State) : (reorder s).inService = s.inService := rfl
@[simp] theorem reorder_started (s : State) : (reorder s).started = s.started := rfl
@[simp] theorem reorder_inStartUp (s : State) : (reorder s).inStartUp = s.inStartUp := rfl
@[simp] theorem reorder_eligible (s : State) : (reorder s).eligible = s.eligible := rfl
@[simp] theorem reorder_isTail (s : State) : (reorder s).isTail = s.isTail := rfl
@[simp] theorem reorder_hasRoom (s : State) (n : Nat) : (reorder s).hasRoom n = s.hasRoom n := rfl
@[simp] theorem reorder_sending (s : State) : (reorder s).sending = s.sending := rfl

@[simp] theorem enqueue_loader (s : State) (es : List TxEntry) : (enqueue es s).loader = s.loader := rfl
@[simp] theorem enqueue_lpu (s : State) (es : List TxEntry) : (enqueue es s).lpu = s.lpu := rfl
@[simp] theorem enqueue_table (s : State) (es : List TxEntry) : (enqueue es s).table = s.table := rfl
@[simp] theorem enqueue_wu (s : State) (es : List TxEntry) : (enqueue es s).wu = s.wu := rfl
@[simp] theorem enqueue_inhibit (s : State) (es : List TxEntry) : (enqueue es s).inhibit = s.inhibit := rfl
@[simp] theorem enqueue_tariff (s : State) (es : List TxEntry) : (enqueue es s).tariff = s.tariff := rfl
@[simp] theorem enqueue_rater (s : State) (es : List TxEntry) : (enqueue es s).rater = s.rater := rfl
@[simp] theorem enqueue_cc (s : State) (es : List TxEntry) : (enqueue es s).cc = s.cc := rfl
@[simp] theorem enqueue_au (s : State) (es : List TxEntry) : (enqueue es s).au = s.au := rfl
@[simp] theorem enqueue_ip (s : State) (es : List TxEntry) : (enqueue es s).ip = s.ip := rfl
@[simp] theorem enqueue_pins (s : State) (es : List TxEntry) : (enqueue es s).pins = s.pins := rfl
@[simp] theorem enqueue_free (s : State) (es : List TxEntry) : (enqueue es s).free = s.free := rfl
@[simp] theorem enqueue_pending (s : State) (es : List TxEntry) : (enqueue es s).pending = s.pending := rfl
@[simp] theorem enqueue_running (s : State) (es : List TxEntry) : (enqueue es s).running = s.running := rfl
@[simp] theorem enqueue_inService (s : State) (es : List TxEntry) : (enqueue es s).inService = s.inService := rfl
@[simp] theorem enqueue_started (s : State) (es : List TxEntry) : (enqueue es s).started = s.started := rfl
@[simp] theorem enqueue_inStartUp (s : State) (es : List TxEntry) : (enqueue es s).inStartUp = s.inStartUp := rfl
@[simp] theorem enqueue_eligible (s : State) (es : List TxEntry) : (enqueue es s).eligible = s.eligible := rfl
@[simp] theorem enqueue_isTail (s : State) (es : List TxEntry) : (enqueue es s).isTail = s.isTail := rfl
@[simp] theorem enqueue_record (s : State) (es : List TxEntry) (k : Pos) : (enqueue es s).record k = s.record k := rfl
@[simp] theorem enqueue_matching (s : State) (es : List TxEntry) (k : Pos) : (enqueue es s).matching k = s.matching k := rfl

end Sys2Proof.Machine
end

