-- ==== Sys2Proof/Laws/Receive.lean ====
section
/-! SUPPORT. What a delivered frame comes to: handed to its block, ignored, or refused; and the kinds of the frames that reports
offer. -/

namespace Sys2Proof.Laws

open Sys2Proof.Machine

/-- A station that hears a frame is in none of the modes that ignore frames. -/
theorem hears_mode {s : State} {dst : Node} (h : s.hears dst) :
    s.loader.mode ≠ none ∧ s.loader.mode ≠ some .offline := by
  obtain ⟨-, -, h, -⟩ := h
  unfold State.inService at h
  constructor <;> intro hm <;> simp [hm] at h

/-- A heard frame of its full length, from a source that may send its kind, is handed to its block. -/
theorem screen_handed {kind : Kind} {src dst : Node} {p : List Byte} {s : State} (h : s.hears dst)
    (length : kind.payloadLength ≤ p.length) (source : src ≠ 15#4) (terminal : kind.terminal = true → src = 0#4)
    (reset : kind = .lineReset → dst = 15#4) (report : kind.report = false) : screen kind src dst p s = .handed := by
  obtain ⟨hm, ho⟩ := hears_mode h
  obtain ⟨-, -, -, hd⟩ := h
  simp only [screen, hm, ho, source, if_false]
  rw [if_neg, if_neg, if_neg, if_neg, if_neg]
  · omega
  · simp [report]
  · rintro ⟨hk, hdst⟩; exact hdst (reset hk)
  · rintro ⟨ht, hsrc⟩; exact hsrc (terminal ht)
  · rintro ⟨h1, h2⟩; rcases hd with hd | hd <;> contradiction

/-- A frame of at most 12 bytes with the check of its sender is good (09 R170). -/
theorem arrivedGood_goodBody (kind : Kind) (src dst : Node) {p : List Byte} (short : p.length ≤ 12) :
    arrivedGood kind src dst (goodBody kind src dst p) = true := by
  simp [arrivedGood, goodBody, frameGood, payloadFits, short]

/-- A frame is good exactly with its sender's check and at most 12 bytes (09 R170). -/
theorem arrivedGood_iff (kind : Kind) (src dst : Node) (body : FrameBody) :
    arrivedGood kind src dst body = true ↔
      body.check = some (crc16 (checkedBits kind.code src dst body.payload)) ∧ body.payload.length ≤ 12 := by
  unfold arrivedGood frameGood payloadFits
  split <;> simp_all

/-- The block acts on the state in which the accept slot has been driven. -/
theorem receive_handed {kind : Kind} {src dst : Node} {p : List Byte} {act : State → State} {s : State}
    (h : s.hears dst) (short : p.length ≤ 12) (length : kind.payloadLength ≤ p.length) (source : src ≠ 15#4)
    (terminal : kind.terminal = true → src = 0#4) (reset : kind = .lineReset → dst = 15#4)
    (report : kind.report = false) :
    receive kind src dst (goodBody kind src dst p) act s = .next (act s.accepting) := by
  have hh : screen kind src dst p s.accepting = .handed :=
    screen_handed (s := s.accepting) h length source terminal reset report
  obtain ⟨h1, h2, -, -⟩ := h
  unfold receive
  rw [if_neg (by simp [h1, h2]), if_neg (by simp [arrivedGood_goodBody kind src dst short])]
  simp only [State.accepting, goodBody, Bool.false_eq_true, if_false] at hh ⊢
  rw [hh]

/-- The whole of what a frame of another node can do: nothing, the driven slot alone, a NOT_ALLOWED refusal, or its block's
act. -/
theorem receive_cases {kind : Kind} {src dst : Node} {body : FrameBody} {act : State → State}
    {s t : State} (h : receive kind src dst body act s = .next t) :
    t = s ∨ t = s.setLc { s.lc with receiver := false, drove := .reject } ∨ t = s.accepting ∨
      t = refuse kind .notAllowed src.toNat s.accepting ∨ t = act s.accepting := by
  unfold receive at h
  split at h
  · exact .inl (by cases h; rfl)
  split at h
  · exact .inr (.inl (by cases h; rfl))
  dsimp only at h
  split at h
  · exact .inr (.inr (.inl (by cases h; rfl)))
  split at h <;> cases h
  · exact .inr (.inr (.inl rfl))
  · exact .inr (.inr (.inr (.inl rfl)))
  · exact .inr (.inr (.inr (.inr rfl)))

/-- Every frame that a report offers is of a report kind and goes to the terminal, and all but PIECE REPORTs are replies
(09 R171). -/
theorem report_frames (r : Record) (s : State) (au : Account) (kind : Kind) (reason : RefusalReason) (detail : Nat) :
    (∀ e ∈ pieceReport r, e.kind.report = true ∧ e.dest = 0#4) ∧
      ∀ e ∈ statusReport s ++ accountReport au ++ [refusalEntry kind reason detail],
        e.kind.report = true ∧ e.kind.reply = true ∧ e.dest = 0#4 := by
  constructor
  · simp [pieceReport, newEntry, Kind.report]
  · unfold statusReport
    cases s.loader.mode <;> simp [accountReport, refusalEntry, newEntry, Kind.report, Kind.reply]

/-- No terminal kind is a report kind (09 R171). -/
theorem terminal_not_report (kind : Kind) (h : kind.terminal = true) : kind.report = false := by
  cases kind <;> first | rfl | cases h

/-- A refusal touches nothing but the transmit queue. -/
theorem refuse_frame (kind : Kind) (reason : RefusalReason) (detail : Nat) (s : State) :
    refuse kind reason detail s =
      s.setLc { s.lc with
        queue := if s.hasRoom 1 then insertEntry (refusalEntry kind reason detail) s.lc.queue else s.lc.queue } := by
  simp only [refuse, offer, enqueue, List.length_singleton, List.foldl]
  split <;> simp [State.setLc]

end Sys2Proof.Laws
end

