-- ==== Sys2Proof/Laws/Shared.lean ====
section
/-! SUPPORT. What each shared operation can do, said once: which part of the state it changes, what the table and the
queue hold after it, and for the operations that run others, that a property kept by those is kept by the whole. -/

namespace Sys2Proof.Machine

/-! ### Free choices -/

/-- A drawn index is below the number of choices. -/
theorem drawIndex_lt {n : Nat} (s : State) (h : 0 < n) : (drawIndex n s).1 < n := by
  unfold drawIndex
  split
  · exact h
  · exact Nat.mod_lt _ h

/-- A draw changes the count of draws and nothing else. -/
theorem drawIndex_state (n : Nat) (s : State) : (drawIndex n s).2 = s ∨ (drawIndex n s).2 = s.setFree (s.free + 1) := by
  unfold drawIndex
  split
  · exact .inl rfl
  · exact .inr rfl

/-- A property that no draw touches holds after one. -/
theorem drawIndex_keeps {P : State → Prop} (hf : ∀ (s : State) (n : Nat), P s → P (s.setFree n)) (n : Nat) {s : State}
    (h : P s) : P (drawIndex n s).2 := by
  obtain e | e := drawIndex_state n s <;> rw [e]
  · exact h
  · exact hf _ _ h

/-- Two effects in either order keep what each keeps. -/
theorem inEitherOrder_keeps {P : State → Prop} (hf : ∀ (s : State) (n : Nat), P s → P (s.setFree n))
    {f g : State → State} (h1 : ∀ s, P s → P (f s)) (h2 : ∀ s, P s → P (g s)) {s : State} (h : P s) :
    P (inEitherOrder f g s) := by
  have hd := drawIndex_keeps hf 2 h
  unfold inEitherOrder
  split <;> rename_i e <;> rw [e] at hd
  · exact h2 _ (h1 _ hd)
  · exact h1 _ (h2 _ hd)

/-- An effect on each of several items, in any order, keeps what the effect on one keeps. -/
theorem inAnyOrder_keeps {P : State → Prop} (hf : ∀ (s : State) (n : Nat), P s → P (s.setFree n))
    {f : Pos → State → State} (h1 : ∀ k s, P s → P (f k s)) (n : Nat) :
    ∀ (items : List Pos) {s : State}, P s → P (inAnyOrder f n items s) := by
  induction n with
  | zero => intro items s h; exact h
  | succ n ih =>
    intro items s h
    cases items with
    | nil => exact h
    | cons a as =>
      have hd := drawIndex_keeps hf (a :: as).length h
      simp only [inAnyOrder]
      split
      · exact hd
      · exact ih _ (h1 _ _ hd)

/-! ### The record table -/

/-- Putting a record at its place adds that record and no other. -/
theorem insertByKey_perm (p : Pos) (r : Record) (rs : List Record) : (insertByKey p r rs).Perm (r :: rs) := by
  induction rs with
  | nil => exact .refl _
  | cons x xs ih =>
    simp only [insertByKey]
    split
    · exact .refl _
    · exact (ih.cons x).trans (.swap r x xs)

/-- Ordering the table adds and removes no record. -/
theorem sortByKey_perm (p : Pos) (rs : List Record) : (sortByKey p rs).Perm rs := by
  induction rs with
  | nil => exact .refl _
  | cons x xs ih => exact (insertByKey_perm p x _).trans (ih.cons x)

/-- A record at its place leaves an ordered table ordered. -/
theorem insertByKey_sorted (p : Pos) (r : Record) {rs : List Record}
    (h : rs.Pairwise (fun a b => orderKey p a.key ≤ orderKey p b.key)) :
    (insertByKey p r rs).Pairwise (fun a b => orderKey p a.key ≤ orderKey p b.key) := by
  induction rs with
  | nil => simp [insertByKey]
  | cons x xs ih =>
    obtain ⟨hx, hxs⟩ := List.pairwise_cons.1 h
    simp only [insertByKey]
    split
    · rename_i hr
      refine List.pairwise_cons.2 ⟨fun b hb => ?_, h⟩
      obtain rfl | hb := List.mem_cons.1 hb
      · exact hr
      · exact le_trans hr (hx b hb)
    · rename_i hr
      refine List.pairwise_cons.2 ⟨fun b hb => ?_, ih hxs⟩
      obtain rfl | hb := List.mem_cons.1 ((insertByKey_perm p r xs).mem_iff.1 hb)
      · exact (not_le.1 hr).le
      · exact hx b hb

/-- An ordered table is in key order (02 R18). -/
theorem sortByKey_sorted (p : Pos) (rs : List Record) :
    (sortByKey p rs).Pairwise (fun a b => orderKey p a.key ≤ orderKey p b.key) := by
  induction rs with
  | nil => exact .nil
  | cons x xs ih => exact insertByKey_sorted p x ih

/-- Changing a record by a function that keeps keys leaves the keys of the table as they are. -/
theorem updateRecord_keys (s : State) (k : Pos) (f : Record → Record) (hf : ∀ r, (f r).key = r.key) :
    (s.updateRecord k f).table.records.map (fun r => r.key) = s.table.records.map (fun r => r.key) := by
  simp only [State.updateRecord, State.setTable, List.map_map]
  refine List.map_congr_left fun r _ => ?_
  simp only [Function.comp]
  split
  · exact hf r
  · rfl

/-- The changed record is what the table holds under its key. -/
theorem record_updateRecord (s : State) (k : Pos) (f : Record → Record) (hf : ∀ r, (f r).key = r.key) :
    (s.updateRecord k f).record k = (s.record k).map f := by
  simp only [State.record, State.updateRecord, State.setTable]
  induction s.table.records with
  | nil => rfl
  | cons x xs ih =>
    simp only [List.map_cons, List.find?_cons]
    by_cases hx : x.key = k
    · simp only [hx, hf, beq_self_eq_true, if_true, Option.map_some]
    · simp only [beq_eq_false_iff_ne.2 hx, Bool.false_eq_true, if_false]; exact ih

/-- Every other record is as it was. -/
theorem record_updateRecord_other (s : State) {k j : Pos} (f : Record → Record) (hf : ∀ r, (f r).key = r.key)
    (h : j ≠ k) : (s.updateRecord k f).record j = s.record j := by
  simp only [State.record, State.updateRecord, State.setTable]
  induction s.table.records with
  | nil => rfl
  | cons x xs ih =>
    simp only [List.map_cons, List.find?_cons]
    by_cases hx : x.key = k
    · simp only [hx, beq_self_eq_true, if_true, hf, beq_eq_false_iff_ne.2 (Ne.symm h)]; exact ih
    · simp only [beq_eq_false_iff_ne.2 hx, Bool.false_eq_true, if_false, ih]

/-- Detaching a walk reaches the Rating Engine and nothing else (05 R94). -/
theorem detachWalk_cases (k : Pos) (s : State) :
    detachWalk k s = s ∨
      ∃ w, s.rater.walk = some w ∧ w.record = some k ∧
        detachWalk k s = s.setRater { s.rater with walk := some { w with record := none } } := by
  unfold detachWalk
  split
  · split
    · exact .inr ⟨_, ‹_›, ‹_›, rfl⟩
    · exact .inl rfl
  · exact .inl rfl

/-- What a removal does: the records of the key leave the table, an attached walk is detached, and the entry owner is
cleared if it was that record (02 R30). -/
theorem removeRecord_eq (k : Pos) (s : State) :
    removeRecord k s =
      { s with
        rater := (detachWalk k s).rater
        table := { s.table with records := s.table.records.filter (fun r => !(r.key == k)) }
        lpu := { s.lpu with entryOwner := if s.lpu.entryOwner = some k then none else s.lpu.entryOwner } } := by
  obtain h | ⟨w, -, -, h⟩ := detachWalk_cases k s <;>
    simp only [removeRecord, h, State.setTable, State.setRater, State.setLpu] <;> split <;> rfl

/-! ### The transmit queue -/

/-- Admission adds that frame and no other. -/
theorem insertEntry_perm (e : TxEntry) (q : List TxEntry) : (insertEntry e q).Perm (e :: q) := by
  induction q with
  | nil => exact .refl _
  | cons x xs ih =>
    simp only [insertEntry]
    split
    · exact (ih.cons x).trans (.swap e x xs)
    · exact .refl _

/-- Admission leaves the frames of a queue in their order (09 R178). -/
theorem insertEntry_sublist (e : TxEntry) (q : List TxEntry) : q.Sublist (insertEntry e q) := by
  induction q with
  | nil => exact List.nil_sublist _
  | cons x xs ih =>
    simp only [insertEntry]
    split
    · exact ih.cons_cons x
    · exact List.sublist_cons_self _ _

/-- Admission keeps the queue in ascending kind code (09 R178). -/
theorem insertEntry_sorted (e : TxEntry) {q : List TxEntry}
    (h : q.Pairwise (fun a b => a.kind.code ≤ b.kind.code)) :
    (insertEntry e q).Pairwise (fun a b => a.kind.code ≤ b.kind.code) := by
  induction q with
  | nil => simp [insertEntry]
  | cons x xs ih =>
    obtain ⟨hx, hxs⟩ := List.pairwise_cons.1 h
    simp only [insertEntry]
    split
    · rename_i hc
      refine List.pairwise_cons.2 ⟨fun b hb => ?_, ih hxs⟩
      obtain rfl | hb := List.mem_cons.1 ((insertEntry_perm e xs).mem_iff.1 hb)
      · exact hc
      · exact hx b hb
    · rename_i hc
      refine List.pairwise_cons.2 ⟨fun b hb => ?_, h⟩
      obtain rfl | hb := List.mem_cons.1 hb
      · exact (not_le.1 hc).le
      · exact le_trans (not_le.1 hc).le (hx b hb)

/-- What a sample can do (03 R42, R51): nothing; with a Pe arrival to come, nothing but a free value drawn; accumulation in
the record it is attributed to at its own line position or, sample first, at Pe; or zero tracking. -/
theorem sampleArrival_cases {raw : BitVec 24} {s t : State} (h : execSampleArrival raw s = .next t) :
    t = s ∨ t = s.setFree (s.free + 1) ∨
      (∃ r, attributedAt s.lpu.linePos s = some r ∧ t = takeSample raw.toInt r.key s) ∨
      (platformEmpty s = true ∧ t = emptySample raw.toInt s) ∨
      ∃ r, attributedAtPe s = some r ∧ t = takeSample raw.toInt r.key (s.setFree (s.free + 1)) := by
  unfold execSampleArrival at h
  split at h
  · cases h; exact .inl rfl
  split at h
  · rename_i r hr; cases h; exact .inr (.inr (.inl ⟨r, hr, rfl⟩))
  split at h
  · rename_i he; cases h; exact .inr (.inr (.inr (.inl ⟨he, rfl⟩)))
  split at h
  · rename_i r hr
    have hd : drawIndex 2 s = (Config.freeValue s.free % 2, s.setFree (s.free + 1)) := by simp [drawIndex]
    simp only [hd] at h
    cases h
    split
    · exact .inr (.inr (.inr (.inr ⟨r, hr, rfl⟩)))
    · exact .inr (.inl rfl)
  · cases h; exact .inl rfl

/-- Frames that are offered together add themselves and nothing else. -/
theorem enqueue_perm (es : List TxEntry) (s : State) : (enqueue es s).lc.queue.Perm (es ++ s.lc.queue) := by
  simp only [enqueue, State.setLc]
  generalize s.lc.queue = q
  induction es generalizing q with
  | nil => exact .refl _
  | cons e es ih =>
    refine (ih (insertEntry e q)).trans ?_
    exact ((insertEntry_perm e q).append_left es).trans List.perm_middle

/-- What an offer can do: the frames are admitted together when there is room, and are dropped when there is not
(09 R179). -/
theorem offer_cases (es : List TxEntry) (s : State) :
    (s.lc.queue.length + es.length ≤ Config.queuePlaces ∧ offer es s = enqueue es s) ∨
      (Config.queuePlaces < s.lc.queue.length + es.length ∧ offer es s = s) := by
  unfold offer State.hasRoom
  split
  · rename_i h; exact .inl ⟨of_decide_eq_true h, rfl⟩
  · rename_i h; exact .inr ⟨not_le.1 (fun hl => h (decide_eq_true hl)), rfl⟩

/-- An offer never lets the queue pass its places (09 R178). -/
theorem offer_length {es : List TxEntry} {s : State} (h : s.lc.queue.length ≤ Config.queuePlaces) :
    (offer es s).lc.queue.length ≤ Config.queuePlaces := by
  obtain ⟨hr, e⟩ | ⟨-, e⟩ := offer_cases es s <;> rw [e]
  · rw [(enqueue_perm es s).length_eq, List.length_append]; omega
  · exact h

/-- An offer changes the queue and nothing else. -/
theorem offer_frame (es : List TxEntry) (s : State) : ∃ q, offer es s = s.setLc { s.lc with queue := q } := by
  unfold offer enqueue
  split
  · exact ⟨_, rfl⟩
  · exact ⟨s.lc.queue, rfl⟩

/-! ### Reports -/

/-- Reports are admitted one after another: what an admission with room keeps, the offers keep (02 R33). -/
theorem offerEach_keeps {P : State → Prop} (h1 : ∀ r s, s.hasRoom 2 = true → P s → P (sendReport r s)) :
    ∀ (rs : List Record) {s : State}, P s → P (offerEach rs s) := by
  intro rs
  induction rs with
  | nil => intro s h; exact h
  | cons r rs ih =>
    intro s h
    simp only [offerEach]
    split
    · exact ih (h1 _ _ ‹_› h)
    · exact h

/-- What an admitted report keeps, the table's offers keep. -/
theorem offerReports_keeps {P : State → Prop} (h1 : ∀ r s, s.hasRoom 2 = true → P s → P (sendReport r s)) {s : State}
    (h : P s) : P (offerReports s) := offerEach_keeps h1 _ h

/-- What the report offers and the other effect of a departure keep, the departure keeps (02 R33). -/
theorem departing_keeps {P : State → Prop} (hf : ∀ (s : State) (n : Nat), P s → P (s.setFree n))
    (h1 : ∀ r s, s.hasRoom 2 = true → P s → P (sendReport r s)) {f : State → State} (h2 : ∀ s, P s → P (f s))
    {s : State} (h : P s) : P (departing f s) := by
  unfold departing
  split
  · exact h2 _ h
  · exact inEitherOrder_keeps hf (fun s hs => offerReports_keeps h1 hs) h2 h

/-- With no record EXITED and ready to report, the table offers nothing. -/
theorem offerReports_none {s : State} (h : dueReports s = []) : offerReports s = s := by
  simp [offerReports, h, offerEach]

/-! ### The belt -/

/-- What every due event keeps, the arrivals of a forward step keep (01 R6, R7). -/
theorem stepEvents_keeps {P : State → Prop} (hf : ∀ (s : State) (n : Nat), P s → P (s.setFree n))
    (h1 : ∀ e s, P s → P (doEvent e s)) (n : Nat) : ∀ (jam : Bool) {s : State}, P s → P (stepEvents n jam s) := by
  induction n with
  | zero => intro jam s h; exact h
  | succ n ih =>
    intro jam s h
    simp only [stepEvents]
    split
    · exact h
    · exact ih _ (h1 _ _ (drawIndex_keeps hf _ h))

/-- With nothing due, no event takes place. -/
theorem stepEvents_none {n : Nat} {jam : Bool} {s : State} (h : dueEvents jam s = []) : stepEvents n jam s = s := by
  cases n with
  | zero => rfl
  | succ n => simp [stepEvents, h]

/-- What reaching a target keeps, the targets reached at the moment one is set keep (01 R6). -/
theorem reachDue_keeps {P : State → Prop} (h1 : ∀ k s, P s → P (reachTarget k s)) (n : Nat) (k : Pos) :
    ∀ {s : State}, P s → P (reachDue n k s) := by
  induction n with
  | zero => intro s h; exact h
  | succ n ih =>
    intro s h
    simp only [reachDue]
    split
    · split
      · exact ih (h1 _ _ h)
      · exact h
    · exact h

/-! ### Accounting and the port -/

/-- A debit starts only when no write is in flight and one waits; it takes the front of the queue (07 R142). -/
theorem startDebit_cases (s : State) :
    startDebit s = s ∨
      ∃ item rest, s.au.write = none ∧ s.au.queue = item :: rest ∧
        startDebit s =
          s.setAu { s.au with queue := rest, write := some (.debit item (debitSet s.au item.amount)) } := by
  unfold startDebit
  split
  · rename_i hw hq; exact .inr ⟨_, _, hw, hq, rfl⟩
  · exact .inl rfl

/-- The port's next operation reaches the Tariff Store and nothing else (04 R63). -/
theorem portNext_frame (s : State) : ∃ t, portNext s = s.setTariff t := by
  unfold portNext
  split
  · exact ⟨_, rfl⟩
  · exact ⟨s.tariff, rfl⟩

/-- A port that carries an operation takes no other (04 R63). -/
theorem portNext_busy {s : State} (h : s.tariff.port.isSome = true) : portNext s = s := by
  unfold portNext portTakes
  simp only [h, if_true]
  split <;> rfl

/-- A HOLD request acts in RUNNING only (01 R14). -/
theorem holdRequest_elsewhere {s : State} (why : HoldReason) (h : s.running = false) : holdRequest why s = s := by
  simp [holdRequest, h]

end Sys2Proof.Machine
end

