-- ==== Sys2Proof/Laws/Reports.lean ====
section
/-! SUPPORT. What the operations on a whole table do, each said once: the release of every reservation, the records that a
HOLD entry keeps, and the offers of the reports that are due. -/

namespace Sys2Proof.Laws

open Sys2Proof.Machine

/-! ### Reservations -/

/-- Releasing the amounts of some records, one after another, takes their sum and their number from the books. -/
theorem releaseFunds_foldl (rs : List Record) (s : State) :
    rs.foldl (fun s r => releaseFunds r s) s =
      s.setAu
        { s.au with
          reserved := s.au.reserved - (rs.map (fun r => r.reserved.getD 0)).sum
          outstanding := s.au.outstanding - rs.length } := by
  induction rs generalizing s with
  | nil => rfl
  | cons r rest ih =>
    rw [List.foldl_cons, ih]
    simp [releaseFunds, State.setAu, Nat.sub_sub, Nat.add_comm]

/-- The amounts held for the records are those of the CLAIMING and CLAIMED ones (07 R138). -/
theorem held_sum (rs : List Record) :
    ((rs.filter givenUp).map (fun r => r.reserved.getD 0)).sum = (rs.map Record.held).sum := by
  induction rs with
  | nil => rfl
  | cons r rest ih => by_cases h : givenUp r = true <;> simp [Record.held, h, ih]

/-- Every reservation is released at once (07 R140, R150). -/
theorem releaseAll_eq (s : State) :
    releaseAll s =
      s.setAu
        { s.au with
          reserved := s.au.reserved - (s.table.records.map Record.held).sum
          outstanding := s.au.outstanding - (s.table.records.filter givenUp).length } := by
  rw [releaseAll, releaseFunds_foldl, held_sum]

/-! ### Records at HOLD entry (02 Table 2-6) -/

/-- A record that HOLD entry keeps is EXITED, has its key, and was EXITED or debited here. -/
theorem recordAtHold_kept {r q : Record} (h : recordAtHold r = some q) :
    q.key = r.key ∧ q.presence = .exited ∧ (r.presence = .exited ∨ r.debitedHere = true) := by
  cases hp : r.presence <;> cases hc : r.claim <;> cases ho : r.outcome <;>
    simp [recordAtHold, Record.debitedHere, hp, hc, ho] at h ⊢ <;> first | (subst h; simp_all) | (obtain ⟨h, rfl⟩ := h; simp_all)

/-- What `giveUpRecords` does to the table, the books and the queue. -/
theorem giveUpRecords_frame (s : State) :
    (giveUpRecords s).table = { s.table with records := s.table.records.filterMap recordAtHold } ∧
      (giveUpRecords s).au = (releaseAll s).au ∧ (giveUpRecords s).lc = s.lc ∧ (giveUpRecords s).loader = s.loader ∧
      (giveUpRecords s).ip = { s.ip with owner := none } ∧
      (giveUpRecords s).rater = { s.rater with walk := s.rater.walk.map (fun w => { w with record := none }) } := by
  unfold giveUpRecords
  rw [releaseAll_eq]
  dsimp only
  split
  · split <;> exact ⟨rfl, rfl, rfl, rfl, rfl, rfl⟩
  · exact ⟨rfl, rfl, rfl, rfl, rfl, rfl⟩

/-! ### Offers of reports (02 R33) -/

/-- Reports are admitted from the front on: the records of a prefix leave the table with both frames in the queue, the
others stay, and no frame leaves the queue. -/
theorem offerEach_spec (rs : List Record) (s : State) :
    ∃ sent kept, rs = sent ++ kept ∧
      (offerEach rs s).table.records = s.table.records.filter (fun r => sent.all (fun x => !(r.key == x.key))) ∧
      (∀ e ∈ s.lc.queue, e ∈ (offerEach rs s).lc.queue) ∧
      ∀ r ∈ sent, newEntry .pieceReport 0#4 (reportPart1 r) ∈ (offerEach rs s).lc.queue ∧
        newEntry .pieceReport 0#4 (reportPart2 r) ∈ (offerEach rs s).lc.queue := by
  induction rs generalizing s with
  | nil => exact ⟨[], [], rfl, by simp [offerEach], by simp [offerEach], by simp⟩
  | cons r rest ih =>
    unfold offerEach
    split
    · obtain ⟨sent, kept, he, ht, hq, hs⟩ := ih (sendReport r s)
      have htable : (sendReport r s).table.records = s.table.records.filter (fun x => !(x.key == r.key)) := by
        simp [sendReport, removeRecord_eq, enqueue]
      have hqueue : (sendReport r s).lc.queue = (enqueue (pieceReport r) s).lc.queue := by
        simp [sendReport, removeRecord_eq]
      have hmem : ∀ e, e ∈ (sendReport r s).lc.queue ↔ e ∈ pieceReport r ∨ e ∈ s.lc.queue := by
        intro e; rw [hqueue, (enqueue_perm (pieceReport r) s).mem_iff, List.mem_append]
      refine ⟨r :: sent, kept, by simp [he], ?_, fun e h => hq e ((hmem e).2 (.inr h)), ?_⟩
      · rw [ht, htable, List.filter_filter]; congr 1; funext x; simp [Bool.and_comm]
      · intro x hx
        rcases List.mem_cons.1 hx with rfl | hx
        · exact ⟨hq _ ((hmem _).2 (.inl (by simp [pieceReport]))), hq _ ((hmem _).2 (.inl (by simp [pieceReport])))⟩
        · exact hs x hx
    · exact ⟨[], r :: rest, rfl, by simp, fun e h => h, by simp⟩

/-- The other blocks are untouched by the offers, but for a walk that is detached and an entry owner that goes. -/
theorem offerEach_frame (rs : List Record) (s : State) :
    (offerEach rs s).au = s.au ∧ (offerEach rs s).loader = s.loader ∧ (offerEach rs s).ip = s.ip ∧
      (offerEach rs s).table.horizon = s.table.horizon ∧ (offerEach rs s).rater.jobs = s.rater.jobs := by
  induction rs generalizing s with
  | nil => simp [offerEach]
  | cons r rest ih =>
    unfold offerEach
    split
    · obtain ⟨h1, h2, h3, h4, h5⟩ := ih (sendReport r s)
      refine ⟨h1.trans ?_, h2.trans ?_, h3.trans ?_, h4.trans ?_, h5.trans ?_⟩ <;> simp [sendReport, removeRecord_eq, enqueue]
      obtain h | ⟨w, -, -, h⟩ := detachWalk_cases r.key (s.setLc { s.lc with queue := (pieceReport r).foldl (fun q e => insertEntry e q) s.lc.queue }) <;> simp [h]
    · exact ⟨rfl, rfl, rfl, rfl, rfl⟩

/-- After the offers, each record of a table of unequal keys stands in the table still, or its report was due and is in
the queue. -/
theorem offerReports_keepsOrReports {s : State} (keys : (s.table.records.map (fun r => r.key)).Nodup) {r : Record}
    (h : r ∈ s.table.records) : (offerReports s).keepsOrReports r := by
  obtain ⟨sent, kept, he, ht, -, hs⟩ := offerEach_spec (dueReports s) s
  by_cases hr : ∃ x ∈ sent, r.key = x.key
  · obtain ⟨x, hx, hk⟩ := hr
    have hd : x ∈ dueReports s := he ▸ List.mem_append_left _ hx
    have hx' := List.mem_filter.1 hd
    have : r = x := List.inj_on_of_nodup_map keys h hx'.1 hk
    subst this
    refine .inr ⟨?_, hs r hx⟩
    have := hx'.2; simp only [Bool.and_eq_true] at this; exact this.2
  · refine .inl ?_
    rw [show (offerReports s).table.records = _ from ht, List.mem_filter]
    refine ⟨h, ?_⟩
    simp only [List.all_eq_true, Bool.not_eq_true', beq_eq_false_iff_ne]
    intro x hx hk; exact hr ⟨x, hx, hk⟩

/-- A record whose report cannot be composed stands in the table still. -/
theorem offerReports_keeps_unready {s : State} (keys : (s.table.records.map (fun r => r.key)).Nodup) {r : Record}
    (h : r ∈ s.table.records) (unready : r.reportReady = false) : r ∈ (offerReports s).table.records := by
  rcases offerReports_keepsOrReports keys h with h | ⟨h, -⟩
  · exact h
  · simp [unready] at h

/-- The offers leave no record that was not in the table. -/
theorem offerReports_subset (s : State) {r : Record} (h : r ∈ (offerReports s).table.records) : r ∈ s.table.records := by
  obtain ⟨_, _, _, ht, -, -⟩ := offerEach_spec (dueReports s) s
  rw [show (offerReports s).table.records = _ from ht] at h
  exact (List.mem_filter.1 h).1

end Sys2Proof.Laws
end

