-- ==== Sys2Proof/Tests/Slice0.lean ====
section
/-! SUPPORT. Tests of the definitions against the manual's worked examples, the smoke test of WellFormed, and a state and
operands for the hypotheses of each statement. -/

namespace Sys2Proof.Tests

open Sys2Proof.Machine

/-! ### Small states -/

/-- Station 2 of 01 Table 1-4. -/
def cfg : ConfigCopy :=
  { ConfigCopy.blank with
    station := 2, offset := 2400, ps := 100, pe := 1100, d := 1200, k := 1500, s := 1600, x := 2200, window := 20,
    vmax := 600, vhyst := 40, tolerance := 16, jamLength := 1200, gain := 1638, initialZero := 1200, minSamples := 4,
    settleBand := 10, zeroBand := 400, zeroFaultLimit := 3, cpm := 4, valueCap := 99999, disputeTolerance := 5,
    disputeLimit := 1, creditLimit := 100000, warningLevel := 500, pitch := 3, width := 120, cellWidth := 6,
    cellHeight := 9, serial := 104577 }

/-- The registers with which 07 WORKED SEQUENCE starts. -/
def registers : NvSet :=
  { descending := 1000, ascending := 48500, control := 49500, count := 12005, nextCredit := 37, generation := 7 }

/-- Station 2 in a mode, with an empty table and an empty queue. -/
def inMode (m : StationMode) : State :=
  { State.reset with
    loader :=
      { State.reset.loader with
        mode := some m, configDone := true, slotsDone := true, banksDone := true, config := cfg, number := 2#4 }
    lpu := { State.reset.lpu with synced := true, linePos := 12400#24 }
    wu := { State.reset.wu with zero := 1200 }
    inhibit :=
      { noJob := false, noDate := false, noTariff := false, overspeed := false, scaleFailed := false,
        scaleSuspect := false, layout := false, blind := false, exhausted := false, paused := false }
    au := { State.reset.au with bank0 := some registers }
    lc := { State.reset.lc with idleSeen := true } }

/-- Station 2 RUNNING. -/
def run : State := inMode .running

/-- Station 2 in HOLD. -/
def held : State := { inMode .hold with loader := { (inMode .hold).loader with reason := .hold .jam } }

/-- Piece A of 01 Table 1-4 right after its sighting. -/
def pieceA : Record := { newRecord 10000#24 with sightPos := some 12400#24 }

/-- Station 2 RUNNING with one record, the line position one count short of a travel of it. -/
def before (travel : Nat) (r : Record) : State :=
  { run with
    lpu := { run.lpu with linePos := 12399#24 + BitVec.ofNat 24 travel }
    table := { run.table with records := [r] } }

/-- The rating of Piece A. -/
def ratingA : RatingPart := { image := 41, step := 1, value := 219, frameSel := 1 }

/-- A frame of the queue on the medium. -/
def sending (k : Kind) (p : List Byte) : TxEntry := { newEntry k 15#4 p with onMedium := true }

/-- The state after a command. -/
def after (c : Instr) (s : State) : State :=
  match exec c s with
  | .next t => t
  | .fault _ | .refused _ => s

/-! ### WellFormed: one ill-formed command for each check -/

/-- A frame that stops before its check, with the payload it brought. -/
def cut (payload : List Byte) : FrameBody := { payload := payload, check := none, rejected := false }

/-- A payload of 16 bytes, more than the length field counts (09 Table 9-1). -/
theorem test_wellFormed_refuses_long_payload :
    Instr.wellFormed (.credit 0#4 2#4 (cut (List.replicate 16 0#8))) = false := by decide

/-- A configuration record that ends before its declared length (11 R199). -/
theorem test_wellFormed_refuses_short_record :
    Instr.wellFormed (.configurationReadComplete (some [1#8, 0x68#8, 2#8])) = false := by decide

/-- Wrong bytes outside the slot area (04 SLOTS AND DESCRIPTORS). -/
theorem test_wellFormed_refuses_cells_outside :
    Instr.wellFormed (.eraseComplete [(65536, 0#8)]) = false ∧
      Instr.wellFormed (.programComplete [(65536, 0#8)]) = false := by decide

/-- A check read of no byte. -/
theorem test_wellFormed_refuses_empty_check_read :
    Instr.wellFormed (.checkReadComplete 0 false) = false := by decide

/-- A bad frame may claim up to 15 payload bytes (09 R170). -/
theorem test_wellFormed_takes_fifteen_bytes :
    Instr.wellFormed (.tariffData 0#4 2#4 (cut (List.replicate 15 0#8))) = true := by decide

/-! ### Positions, arithmetic and byte forms -/

/-- 01 PIECE KEY AND SIGHTING: line positions 12,400 and 1,000 at O = 2,400. -/
theorem test_keys : keyAt cfg 12400#24 = 10000#24 ∧ keyAt cfg 1000#24 = 16775816#24 := by decide

/-- The check value of the CRC-32 over the digits 1 to 9. -/
theorem test_crc32 :
    crc32 [0x31#8, 0x32#8, 0x33#8, 0x34#8, 0x35#8, 0x36#8, 0x37#8, 0x38#8, 0x39#8] = 0xCBF43926#32 := by
  decide +kernel

/-- The check value of the CRC-16 of 09 R170 over the digits 1 to 9. -/
theorem test_crc16 :
    crc16 ([0x31, 0x32, 0x33, 0x34, 0x35, 0x36, 0x37, 0x38, 0x39].flatMap (bitsOf 8)) = 0x29B1#16 := by decide +kernel

/-- A LINE RESET with one bit of its check wrong is bad, and drives the reject slot during the start-up read too. -/
theorem test_bad_frame_is_rejected :
    let good := goodBody .lineReset 0#4 15#4 []
    let e : FrameBody := { good with check := good.check.map (fun c => c ^^^ 1#16) }
    let s := { State.reset with lc := { State.reset.lc with idleSeen := true } }
    arrivedGood .lineReset 0#4 15#4 e = false ∧ (after (.lineReset 0#4 15#4 e) s).lc.drove = .reject := by
  decide +kernel

/-- 09 Contention between two stations: PIECE REPORT of station 1, REFUSAL and ONLINE of station 2. -/
theorem test_arbitration_values :
    arbitrationValue .pieceReport 1#4 = 113 ∧ arbitrationValue .refusal 2#4 = 242 ∧
      arbitrationValue .online 2#4 = 258 := by decide

/-- 03 R45, R46: conversions at zero 1,200 and gain 1,638. -/
theorem test_conversion :
    convertSample 19700 1200 1638 = 462 ∧ convertSample 19620 1200 1638 = 460 ∧ convertSample 1000 1200 1638 = -5 ∧
      clampSample (-5) = 0 ∧ convertSample 1100000 1200 1638 = 27463 ∧ clampSample 27463 = 25000 := by decide

/-- 03 Table 3-2, samples 1, 2 and 5. -/
theorem test_zero_tracking :
    (trackZero cfg 1250 { zero := 1200, zeroFaults := 0, guardPos := none }).zero = 1203 ∧
      (trackZero cfg 1170 { zero := 1203, zeroFaults := 0, guardPos := none }).zero = 1201 ∧
      trackZero cfg 1215 { zero := 1201, zeroFaults := 2, guardPos := none } =
        { zero := 1201, zeroFaults := 0, guardPos := none } := by decide

/-- 03 Table 3-2, sample 8: the third out-of-band sample in succession raises SCALE_FAILED. -/
theorem test_scale_failed :
    (emptySample 1990 { run with wu := { zero := 1201, zeroFaults := 2, guardPos := none } }).inhibit.scaleFailed =
      true := by decide

/-- 03 WORKED WEIGHING: thirty samples, settled with the mean 463; one bounce to 471 leaves the maximum. -/
theorem test_end_of_weighing :
    (weighed 10 { pieceA.weighing with count := 30, sum := 13869, min := some 458, max := some 466 }).weight = some 463 ∧
      (weighed 10 { pieceA.weighing with count := 30, sum := 13874, min := some 458, max := some 471 }).weight =
        some 471 := by decide

/-- 01 R10: at vmax 600 and vhyst 40, 601 raises OVERSPEED, 561 keeps it and 560 clears it. -/
theorem test_overspeed :
    overspeedAfter cfg 601 false = true ∧ overspeedAfter cfg 561 true = true ∧ overspeedAfter cfg 561 false = false ∧
      overspeedAfter cfg 560 true = false := by decide

/-! ### Rating -/

/-- The limits of 05 Table 5-2. -/
def limits52 : Limits :=
  { image := 41, lengthStandard := 245, thickStandard := 50, lengthBulky := 353, thickBulky := 200,
    lengthOversize := 610, thickOversize := 255 }

/-- 05 Table 5-2. -/
theorem test_formats :
    classify 4 limits52 983 50 = some .standard ∧ classify 4 limits52 984 50 = some .bulky ∧
      classify 4 limits52 980 51 = some .bulky ∧ classify 4 limits52 1412 200 = some .bulky ∧
      classify 4 limits52 1416 30 = some .oversize ∧ classify 4 limits52 2440 255 = some .oversize ∧
      classify 4 limits52 2444 10 = none := by decide

/-- The entry of 05 WORKED RATING. -/
def entry37 : DirEntry :=
  { present := true, table := 0, factor := 1150, standard := true, bulky := true, oversize := false, bulkyFee := 300,
    oversizeFee := 0, trackedFee := 450, signedFee := 0, minimum := 900, frameSel := 1 }

/-- The step table of 05 WORKED RATING. -/
def steps37 : List Step :=
  [{ bound := 200, base := 850 }, { bound := 500, base := 1250 }, { bound := 1000, base := 2100 },
    { bound := 2000, base := 3400 }]

/-- 05 Table 5-5, and the limits of Table 5-6. -/
theorem test_rating :
    computeRating 41 99999 entry37 steps37 .bulky .tracked 453 false =
        .rated { image := 41, step := 1, value := 219, frameSel := 1 } ∧
      computeRating 41 99999 entry37 steps37 .bulky .tracked 2001 false = .fault .overLastStep ∧
      computeRating 41 99999 entry37 steps37 .bulky .tracked 25000 true = .fault .overweight ∧
      computeRating 41 99999 entry37 steps37 .oversize .tracked 2001 false = .fault .formatBarred := by decide

/-- 05 Table 5-6: the minimum charge, the smallest value, the zero base. -/
theorem test_rating_small :
    amountOf { entry37 with factor := 500 } .standard .none 850 = 900 ∧
      amountOf { entry37 with factor := 1, minimum := 0 } .standard .none 1 = 1 ∧
      computeRating 41 99999 { entry37 with minimum := 0 } [{ bound := 500, base := 0 }] .standard .none 1 false =
        .fault .zeroValue := by decide

/-- A job of 05 R82. -/
def jobOf (n : Nat) (key : Pos) (inForce : Bool) : Job :=
  { number := n, cls := 2, zone := 5, service := .tracked, key := key, inForce := inForce }

/-- 05 R82: the example with jobs 12, 13 and 14. -/
theorem test_job_selection :
    (jobTaken [jobOf 12 9500#24 true, jobOf 13 10400#24 false, jobOf 14 11000#24 false] 10000#24).map (fun j => j.number) =
        some 12 ∧
      (selectJob 10900#24
          { State.reset.rater with
            jobs := [jobOf 12 9500#24 true, jobOf 13 10400#24 false, jobOf 14 11000#24 false], ref := 9500#24 }).jobs =
        [jobOf 13 10400#24 true, jobOf 14 11000#24 false] := by decide

/-- A rate line of image 41. -/
def lineOf (cls zone : Nat) : RateLine := { image := 41, cls := cls, zone := zone, entry := entry37, steps := steps37 }

/-- 05 Table 5-7: a hit moves its line to the front; the fill of (4, 3) replaces (1, 6). -/
theorem test_cache :
    (linesOf (touch (lineOf 2 5) [[], [], [], [], [], [], [], [lineOf 1 6, lineOf 2 5]]) 2 5).map (fun l => (l.cls, l.zone)) =
        [(2, 5), (1, 6)] ∧
      (linesOf (fill (lineOf 4 3) [[], [], [], [], [], [], [], [lineOf 3 4, lineOf 2 5, lineOf 1 6]]) 4 3).map
          (fun l => (l.cls, l.zone)) = [(4, 3), (3, 4), (2, 5)] := by decide

/-! ### Column composition (08 WORKED COMPOSITION) -/

/-- The rows of a column as a pattern, from a list of rows. -/
def rows (l : List Nat) : Column := l.foldl (fun c r => c ||| BitVec.ofNat 48 (2 ^ (47 - r))) 0#48

/-- A glyph column, from its cell rows. -/
def cellRows (l : List Nat) : BitVec 16 := l.foldl (fun c r => c ||| BitVec.ofNat 16 (2 ^ (15 - r))) 0#16

/-- The geometry, frame image 1 and the glyph columns of 08 Table 8-5. -/
def cfgPrint : ConfigCopy :=
  { cfg with
    fieldValue := ⟨8, 6, false⟩, fieldDate := ⟨44, 6, false⟩, fieldNumber := ⟨8, 20, false⟩,
    fieldSerial := ⟨64, 20, false⟩
    frames := [[], List.replicate 120 (rows [0, 47]), [], []]
    glyphs :=
      [[0#16, cellRows [2, 3, 4, 5, 6], 0#16, cellRows [1, 7], 0#16, 0#16],
        [0#16, 0#16, 0#16, cellRows [1, 2, 3, 4, 5, 6, 7], 0#16, 0#16],
        [0#16, cellRows [2, 6, 7], 0#16, cellRows [1, 4, 7], 0#16, 0#16], [], [], [],
        [0#16, cellRows [2, 3, 4, 5, 6], 0#16, cellRows [1, 4, 7], 0#16, 0#16], [], [],
        [0#16, cellRows [2, 3, 7], 0#16, cellRows [1, 4, 7], 0#16, 0#16], [], [0#16, 0#16, cellRows [7], 0#16, 0#16, 0#16]] }

/-- The print content of piece A. -/
def contentA : PrintContent :=
  { value := 219, frameSel := 1, number := 12006, day := 20, month := 3, year := 26, serial := 104577 }

/-- 08 Table 8-6, columns 9, 33 and 47. -/
theorem test_composition :
    composeColumn cfgPrint contentA 9 = rows [0, 8, 9, 10, 11, 12, 22, 23, 24, 25, 26, 47] ∧
      composeColumn cfgPrint contentA 33 = rows [0, 8, 9, 13, 47] ∧
      composeColumn cfgPrint contentA 47 = rows [0, 7, 10, 13, 21, 27, 47] := by decide

/-- 08 WORKED COMPOSITION: SERIAL at top row 42 is clipped at row 47. -/
theorem test_clipping :
    composeColumn { cfgPrint with fieldSerial := ⟨64, 42, false⟩ } contentA 67 = rows [0, 43, 44, 45, 46, 47] := by decide

/-! ### Accounting (07 Table 7-3) -/

/-- Step 8: the write of A completes with D 781, A 48,719 and piece number 12,006. -/
theorem test_debit_set :
    debitSet { run.au with reserved := 143 } 219 =
      { registers with descending := 781, ascending := 48719, count := 12006, generation := 8 } := by decide

/-- Step 18: the credit of 5,000 gives C 54,500 and the next credit number 38. -/
theorem test_credit_set :
    (creditSet run.au 5000).control = 54500 ∧ (creditSet run.au 5000).nextCredit = 38 := by decide

/-- 07 R138: step 9 has 202 available. -/
theorem test_available :
    ({ run.au with bank0 := some { registers with descending := 781 }, reserved := 143, committed := 436 } :
      Account).available = 202 := by decide

/-! ### States and operands that meet the hypotheses of the statements -/

/-- Piece A once measured and rated. -/
def ratedA : Record :=
  { pieceA with
    phase := .rated, awaits := .d, length := some 880, job := some 12,
    terms := some { cls := 2, zone := 5, service := .tracked }, rating := some (.rated ratingA),
    weighing := { pieceA.weighing with count := 30, sum := 13869, min := some 458, max := some 466, settled := true,
                                       weight := some 463 } }

/-- Piece A claimed. -/
def claimedA : Record := { ratedA with awaits := .k, claim := .claimed, reserved := some 219 }

/-- Piece A committed. -/
def committedA : Record := { claimedA with awaits := .s, claim := .debitWait }

/-- Piece A debited. -/
def armedA : Record := { committedA with claim := .armed, pieceNumber := some 12006 }

/-- Piece A past its exit, its report waiting. -/
def exitedA : Record := { armedA with awaits := .beyond, claim := .ended, presence := .exited, outcome := some .printed }

/-- The CLAIM of piece A in the queue. -/
def claimA : TxEntry := claimEntry ratedA ratingA

/-- The debit of piece A. -/
def debitA : DebitItem := { key := 10000#24, amount := 219 }

/-- A state with one record. -/
def withRecord (r : Record) (s : State) : State := { s with table := { s.table with records := [r] } }

/-- A state with another transmit queue. -/
def withQueue (q : List TxEntry) (s : State) : State := { s with lc := { s.lc with queue := q } }

/-- RUNNING, piece A claimed between D and K, its amount reserved, and a command waiting. -/
def claimedState : State :=
  let s := withRecord claimedA run
  { s with
    lpu := { s.lpu with linePos := 13700#24 }, au := { s.au with reserved := 219, outstanding := 1 }
    pending := [.forwardStep true true] }

/-- RUNNING, piece A in DEBIT_WAIT with its write in flight. -/
def writingState : State :=
  let s := withRecord committedA run
  { s with
    au :=
      { s.au with committed := 219, outstanding := 1, write := some (.debit debitA (debitSet run.au 219)) } }

/-- RUNNING with a rating walk on slot A, whose area holds nothing. -/
def walking (stage : WalkStage) : State :=
  let s := withRecord { ratedA with phase := .rating, rating := none } run
  { s with
    tariff :=
      { s.tariff with
        slotA := { Slot.blank with state := .active, image := 41 }, port := some .walkRead, marker := some .a }
    rater :=
      { s.rater with
        walk := some
          { record := some 10000#24, slot := .a, image := 41, cls := 2, zone := 5, length := 880, thickness := 62,
            stage := stage, format := some .bulky, entry := some entry37, noFill := false } } }

/-- Slot A with some bytes in its area, at their offsets. -/
def withArea (cells : List Host.Cell) (s : State) : State :=
  { s with tariff := { s.tariff with areaA := memWriteCells [] cells } }

/-- The front command. -/
theorem witness_stepRuns : claimedState.pending = .forwardStep true true :: [] ∧ run.pending = [] := by decide

/-- A sound state with a reservation, and the step it takes. -/
theorem witness_soundness :
    claimedState.fundsSound = true ∧ claimedState.tableSound ∧ claimedState.queueSound ∧
      claimedState.memorySound = true ∧ claimedState.slotsSound = true ∧ claimedState.blindSound = true ∧
      claimedState.modeSound = true ∧ claimedState.sizesSound = true ∧
      step claimedState = .next (after (.forwardStep true true) (claimedState.setPending [])) :=
  ⟨by decide, by decide, by decide, by decide, by decide, by decide, by decide, by decide, rfl⟩

/-- A command that changes none of the stores, in a state past the start-up read with a sound queue. -/
theorem witness_keeping :
    run.loader.mode ≠ none ∧ exec .sighting run = .next (after .sighting run) ∧ run.queueSound ∧
      isStartUpRead .sighting = false ∧ isPowerEvent .sighting = false :=
  ⟨by decide, rfl, by decide, rfl, rfl⟩

/-- What a delivered LINE RESET brings after its header. -/
def resetBody : FrameBody := goodBody .lineReset 0#4 15#4 []

/-- The mode changes: a LINE RESET in HOLD. -/
theorem witness_modes :
    held.loader.powered = true ∧
      exec (.lineReset 0#4 15#4 resetBody) held = .next (after (.lineReset 0#4 15#4 resetBody) held) ∧
      (after (.lineReset 0#4 15#4 resetBody) held).loader.mode ≠ held.loader.mode := ⟨rfl, rfl, by decide⟩

/-- A record becomes CLAIMING at D. -/
theorem witness_claiming :
    exec (.forwardStep true true) (before 1200 ratedA) = .next (after (.forwardStep true true) (before 1200 ratedA)) ∧
      ∃ r ∈ (after (.forwardStep true true) (before 1200 ratedA)).table.records, r.claim = .claiming :=
  ⟨rfl, { ratedA with awaits := .k, claim := .claiming, reserved := some 219 }, by decide +kernel, rfl⟩

/-- An unpowered part. -/
theorem witness_powerOn : (after (.powerLoss true) run).loader.powered = false := by decide

/-- A power loss during a debit write, and with no write in flight. -/
theorem witness_powerLoss :
    writingState.loader.powered = true ∧ writingState.au.write = some (.debit debitA (debitSet run.au 219)) ∧
      run.loader.powered = true ∧ run.au.write = none := by decide

/-- The start-up read with the other two reads completed, and with neither. -/
def lastRead : State :=
  { State.reset with loader := { State.reset.loader with slotsDone := true, banksDone := true } }

/-- A left fold over a natural number that evaluates the number at every element. -/
def forcedFold (f : Nat → Byte → Nat) : Nat → List Byte → Nat
  | c, [] => c
  | 0, b :: l => forcedFold f (f 0 b) l
  | n + 1, b :: l => forcedFold f (f (n + 1) b) l

/-- The CRC as a fold the kernel evaluates step by step. -/
def checkOf (b : List Byte) : BitVec 32 := BitVec.ofNat 32 (forcedFold crc32Byte 0xFFFFFFFF b ^^^ 0xFFFFFFFF)

/-- That fold is the CRC. -/
theorem crc32_forced (b : List Byte) : crc32 b = checkOf b := by
  have h : ∀ (l : List Byte) (c : Nat), forcedFold crc32Byte c l = l.foldl crc32Byte c := by
    intro l
    induction l with
    | nil => intro c; cases c <;> rfl
    | cons b l ih => intro c; cases c <;> exact ih _
  rw [checkOf, h]; rfl

/-- A record of 360 bytes that passes every check: W 8 and a cell width of 4. -/
def goodRecord : List Byte :=
  let head : List Byte :=
    beBytes 2 360 ++ beBytes 1 2 ++ beBytes 2 2400 ++ beBytes 2 100 ++ beBytes 2 1100 ++ beBytes 2 1200 ++
      beBytes 2 1500 ++ beBytes 2 1600 ++ beBytes 2 2200 ++ beBytes 1 20 ++ beBytes 2 600 ++ beBytes 1 40 ++
      beBytes 1 16 ++ beBytes 2 1200 ++ beBytes 3 1638 ++ beBytes 3 1200 ++ beBytes 1 4 ++ beBytes 1 10 ++
      beBytes 2 400 ++ beBytes 1 3 ++ beBytes 1 4 ++ beBytes 3 99999 ++ beBytes 1 5 ++ beBytes 1 1 ++
      beBytes 4 100000 ++ beBytes 4 500 ++ beBytes 1 3 ++ beBytes 1 8 ++ beBytes 1 4 ++ beBytes 1 9
  let body := head ++ List.replicate (356 - head.length) 0#8
  body ++ beBytes 4 (checkOf body).toNat

/-- The configuration read as the last of the three, and as the first. -/
theorem witness_configuration :
    lastRead.inStartUp = true ∧ lastRead.loader.configDone = false ∧ lastRead.loader.slotsDone = true ∧
      lastRead.loader.banksDone = true ∧ configFaultOf (some goodRecord) = none ∧ State.reset.inStartUp = true ∧
      State.reset.loader.configDone = false ∧
      (State.reset.loader.slotsDone && State.reset.loader.banksDone) = false := by
  have h : configFaultOf (some goodRecord) = none := by
    unfold configFaultOf
    simp only [crc32_forced]
    decide +kernel
  exact ⟨by decide, by decide, by decide, by decide, h, by decide, by decide, by decide⟩

/-- The values of a record with the least and the greatest that 11 Table 11-4 allows. -/
def rangeRows (b : List Byte) : List (Nat × Nat × Nat) :=
  let f (off size : Nat) : Nat := fieldAt off size b
  [(0, f 5 2, 4095), (0, f 7 2, 4095), (0, f 9 2, 4095), (0, f 11 2, 4095), (0, f 13 2, 4095), (0, f 15 2, 4095),
    (1, f 18 2, 4095), (1, f 22 2, 4095), (1, f 24 3, 1048575), (4, f 30 1, 64), (1, f 32 2, 65535), (1, f 34 1, 8),
    (1, f 35 1, 8), (1, f 36 3, 99999), (1, f 40 1, 16), (1, f 41 4, 99999999), (0, f 45 4, 99999999),
    (1, f 49 1, 15), (8, f 50 1, 240), (4, f 51 1, 10), (5, f 52 1, 16), (0, f 53 1, 239), (0, f 54 1, 47),
    (0, f 55 1, 1), (0, f 56 1, 239), (0, f 57 1, 47), (0, f 58 1, 1), (0, f 59 1, 239), (0, f 60 1, 47),
    (0, f 61 1, 1), (0, f 62 1, 239), (0, f 63 1, 47), (0, f 64 1, 1), (0, f 65 3, 999999)]

/-- The record with one byte changed and its CRC put right again. -/
def altered (i : Nat) (v : Byte) : List Byte :=
  let body := (goodRecord.take 356).set i v
  body ++ beBytes 4 (checkOf body).toNat

/-- The number of values of a record that are out of range. -/
def outOfRange (b : List Byte) : Nat := ((rangeRows b).filter (fun x => x.2.1 < x.1 || x.2.2 < x.2.1)).length

/-- The record passes the checks up to the station number, as its declared length says. -/
def passesCrc (b : List Byte) : Bool :=
  fieldAt 0 2 b == 360 && b.length == 360 && checkOf (b.take 356) == BitVec.ofNat 32 (fieldAt 356 4 b)

/-- A port that answers with one byte, lengths 359 and 6,073, and a record one byte short; a wrong last byte. -/
theorem witness_configuration_length :
    ([1#8] : List Byte).length < 2 ∧ fieldAt 0 2 (beBytes 2 359) < 360 ∧ 6072 < fieldAt 0 2 (beBytes 2 6073) ∧
      fieldAt 0 2 (goodRecord.take 359) = 360 ∧ (goodRecord.take 359).length < 360 ∧
      passesCrc (goodRecord.set 355 1#8) = false ∧ (goodRecord.set 355 1#8).length = 360 ∧
      fieldAt 0 2 (goodRecord.set 355 1#8) = 360 := by
  decide +kernel

/-- STATION with 0 and 15, RANGE with a minimum of 3 samples and with 65, GEOMETRY with a width of 9, and ORDER with Ps
0 and with a hysteresis above the limit, each record passing the checks before. -/
theorem witness_configuration_values :
    (passesCrc (altered 2 0#8) = true ∧ fieldAt 2 1 (altered 2 0#8) = 0) ∧
      (passesCrc (altered 2 15#8) = true ∧ fieldAt 2 1 (altered 2 15#8) = 15) ∧
      (passesCrc (altered 30 3#8) = true ∧ outOfRange (altered 30 3#8) = 1) ∧
      (passesCrc (altered 30 65#8) = true ∧ outOfRange (altered 30 65#8) = 1) ∧
      (passesCrc (altered 50 9#8) = true ∧ outOfRange (altered 50 9#8) = 0 ∧
        360 ≠ 72 + 24 * (fieldAt 50 1 (altered 50 9#8) + fieldAt 51 1 (altered 50 9#8))) ∧
      (passesCrc (altered 6 0#8) = true ∧ outOfRange (altered 6 0#8) = 0 ∧ fieldAt 5 2 (altered 6 0#8) = 0 ∧
        360 = 72 + 24 * (fieldAt 50 1 (altered 6 0#8) + fieldAt 51 1 (altered 6 0#8))) ∧
      passesCrc (altered 18 0#8) = true ∧ outOfRange (altered 18 0#8) = 0 ∧
        fieldAt 18 2 (altered 18 0#8) = 88 ∧ fieldAt 20 1 (altered 18 0#8) = 40 := by
  decide +kernel

/-- The rebuild and the bank read before the configuration read, with two ACTIVE records, with either slot's record
alone ACTIVE, beside an absent, a READY and an unread record, and with two good banks. -/
theorem witness_reads :
    let r : SlotRecord := { state := .active, image := 41, ordinal := 100, length := 2176, invalid := none }
    let with2 (a b : Option SlotRecord) :=
      { State.reset with tariff := { State.reset.tariff with recordA := a, recordB := b } }
    let s := with2 (some r) (some r)
    let t := with2 (some r) none
    let v := with2 (some r) (some { r with state := .ready, image := 42 })
    let w := with2 none (some r)
    let u := { State.reset with
               au := { State.reset.au with bank0 := some registers, bank1 := some { registers with generation := 8 } } }
    (s.inStartUp = true ∧ s.loader.slotsDone = false ∧ s.loader.configDone = false ∧ s.tariff.record .a = some r ∧
        s.tariff.record .b = some r ∧ r.state = .active) ∧
      (t.tariff.record .a = some r ∧ t.tariff.record SlotId.a.other = none) ∧
      (v.tariff.record .a = some r ∧ v.tariff.record SlotId.a.other = some { r with state := .ready, image := 42 }) ∧
      (w.tariff.record .b = some r ∧ w.tariff.record SlotId.b.other = none ∧ w.inStartUp = true) ∧
      (u.inStartUp = true ∧ u.loader.banksDone = false ∧ u.loader.configDone = false ∧
        u.au.bank1 = some { registers with generation := 8 }) ∧
      State.reset.au.bank1 = none := by decide

/-- Forward and backward steps of a powered part; a backward step that passes the tolerance by one. -/
theorem witness_counts :
    let s := { run with lpu := { run.lpu with reversal := 16 } }
    run.loader.powered = true ∧ s.loader.mode = some .running ∧
      s.loader.config.tolerance < min (s.lpu.reversal + 1) 4095 ∧
      min (run.lpu.reversal + 1) 4095 ≤ run.loader.config.tolerance := by decide

/-- A notice limit and a horizon clearance that the next forward step reaches, in RUNNING and in HOLD. -/
theorem witness_ticks :
    let r := { noticedRecord cfg 9980#24 { station := 1, weight := 463, step := 1, image := 41 } with
               noticeLimit := some 12401#24 }
    let s := withRecord r run
    let due (m : State) := { m with lpu := { m.lpu with clearance := some 12401#24 } }
    (s.beltClear ∧ r.presence = .noticed ∧ r.beforeReset = false ∧ r.noticeLimit = some (s.lpu.linePos + 1#24) ∧
        s.lpu.entryOwner ≠ some r.key) ∧
      ((due run).lpu.clearance = some ((due run).lpu.linePos + 1#24) ∧ (due run).portIdle ∧
        (due run).table.records = [] ∧ (due run).loader.mode = some .running) ∧
      (due held).lpu.clearance = some ((due held).lpu.linePos + 1#24) ∧ (due held).loader.powered = true ∧
      (due held).portIdle ∧ (due held).loader.mode ≠ some .running := by decide

/-- An exit cell one count short of its jam. -/
theorem witness_jam :
    let s := { run with lpu := { run.lpu with exitBlocked := true, exitRun := 1200 } }
    s.loader.powered = true ∧ s.loader.mode = some .running ∧ s.table.records = [] ∧ s.lpu.clearance = none ∧
      s.wu.guardPos = none ∧ s.portIdle ∧ s.lpu.exitBlocked = true ∧
      s.loader.config.jamLength < min (s.lpu.exitRun + 1) 4095 := by decide

/-- A sound RUNNING station, one count short of a REVERSED request, with a record of each claim phase that holds an
amount or a piece number, and one EXITED. -/
def mixed : State :=
  { writingState with
    lpu := { writingState.lpu with reversal := 16, linePos := 13950#24 }
    table :=
      { writingState.table with
        records :=
          [committedA, { claimedA with key := 10100#24, claim := .claiming }, { claimedA with key := 10200#24 },
            { armedA with key := 10300#24 }, { exitedA with key := 10400#24, presence := .present },
            { exitedA with key := 10500#24 }] }
    au := { writingState.au with reserved := 438, outstanding := 3 }
    lc := { writingState.lc with queue := [{ claimA with record := some 10100#24 }] } }

/-- The records at HOLD entry. -/
theorem witness_hold :
    mixed.loader.powered = true ∧ mixed.fundsSound = true ∧ mixed.tableSound ∧ mixed.queueSound ∧
      mixed.loader.mode = some .running ∧
      mixed.loader.config.tolerance < min (mixed.lpu.reversal + 1) 4095 ∧ committedA ∈ mixed.table.records ∧
      committedA.presence = .present ∧ committedA.claim = .debitWait ∧ committedA.pieceNumber = none ∧
      mixed.table.records.map (fun r => (r.presence, r.claim, r.pieceNumber.isSome, r.outcome.isSome)) =
        [(.present, .debitWait, false, false), (.present, .claiming, false, false), (.present, .claimed, false, false),
          (.present, .armed, true, false), (.present, .ended, true, true), (.exited, .ended, true, true)] ∧
      mixed.lc.queue.length + (mixed.table.records.filter (fun x => x.claim == .claimed)).length ≤ 8 := by decide

/-- Sightings with key 10,000 on an empty table: job 12 alone in force; a pending job of that key before one of a later
key; pending jobs of later keys alone, behind a job in force and with none in force. -/
theorem witness_sighting :
    let s := { run with rater := { run.rater with jobs := [jobOf 12 9500#24 true] } }
    let later : List Job := [jobOf 13 10001#24 false, jobOf 14 11000#24 false]
    let taken : List Job := [jobOf 12 9500#24 true] ++ jobOf 13 10000#24 false :: [jobOf 14 11000#24 false]
    let applies (j : Job) : Prop := precedes j.key 10000#24 = true ∨ j.key = 10000#24
    (s.loader.powered = true ∧ s.loader.mode = some .running ∧ s.lpu.synced = true ∧ s.lpu.entryBlocked = false ∧
        s.lpu.linePos - BitVec.ofNat 24 s.loader.config.offset = 10000#24 ∧ s.table.records.length < 16 ∧
        (∀ q ∈ s.table.records, within s.loader.config.window q.key 10000#24 = false) ∧
        s.rater.jobs = [jobOf 12 9500#24 true] ∧ (jobOf 12 9500#24 true).inForce = true) ∧
      ((taken.map (fun x => x.key)).Nodup ∧ (∀ x ∈ taken.drop 1, x.inForce = false) ∧
        applies (jobOf 13 10000#24 false) ∧ ∀ x ∈ [jobOf 14 11000#24 false], ¬ applies x) ∧
      (∀ x ∈ later, ¬ applies x) ∧ ∀ x ∈ later, x.inForce = false ∧ ¬ applies x := by decide

/-- Sixteen records 100 counts apart, none near key 10,000. -/
def fullTable : List Record := (List.range 16).map (fun i => newRecord (BitVec.ofNat 24 (20000 + 100 * i)))

/-- The other sightings: UNSYNCED; a record 20 counts away; a full table; a NOTICED record; a horizon held one count
before the key, at it and one after it; an EXITED record 20 counts away. -/
theorem witness_sightings :
    let u := inMode .unsynced
    let tail := withRecord (newRecord 10020#24) run
    let full := { run with table := { run.table with records := fullTable } }
    let seen : Record :=
      noticedRecord cfg 9980#24 { station := 1, weight := 463, step := 1, image := 41 }
    let gone : Record := { exitedA with key := 10020#24 }
    (u.loader.mode = some .unsynced ∧ u.lpu.entryBlocked = false) ∧
      (tail.loader.config.x ≤ 4095 ∧ tail.table.horizon = none ∧ tail.rater.walk = none ∧
        within tail.loader.config.window 10020#24 10000#24 = true ∧ (newRecord 10020#24).presence = .present) ∧
      (16 ≤ full.table.records.length ∧
        ∀ q ∈ full.table.records, within full.loader.config.window q.key 10000#24 = false) ∧
      (seen.presence = .noticed ∧ (withRecord seen run).rater.jobs = [] ∧
        within cfg.window seen.key (12400#24 - BitVec.ofNat 24 cfg.offset) = true) ∧
      (precedes 9999#24 10000#24 = true ∧ precedes 10000#24 10001#24 = true) ∧
      (withRecord gone run).table.records = [gone] ∧ gone.presence = .exited ∧
      within cfg.window gone.key 10000#24 = true := by decide

/-- The cells: an owner in the entry cell, an untracked piece in it, an exit cell clear. -/
theorem witness_cells :
    let s := withRecord pieceA
      { run with lpu := { run.lpu with entryBlocked := true, entryRun := 880, entryOwner := some 10000#24 } }
    let u := { run with lpu := { run.lpu with entryBlocked := true } }
    (s.loader.powered = true ∧ s.loader.mode = some .running ∧ s.lpu.entryBlocked = true ∧
        s.lpu.entryOwner = some 10000#24 ∧ ∀ r ∈ s.table.records, r.key = 10000#24 → r.awaits ≠ .exit) ∧
      (u.lpu.entryBlocked = true ∧ u.lpu.entryOwner = none) ∧ run.lpu.exitBlocked = false ∧ s.inService = true := by decide

/-- A record one count short of its exit window, the exit cell clear and blocked at its jam length. -/
theorem witness_window :
    let r := { exitedA with presence := .present, awaits := .window, exitTarget := some 15480#24 }
    let s := before 2200 r
    let b := { s with lpu := { s.lpu with exitBlocked := true, exitRun := 1199 } }
    (s.onlyRecord r s.loader.config.x ∧ b.onlyRecord r b.loader.config.x) ∧
      (s.loader.powered = true ∧ s.loader.mode = some .running ∧ s.lpu.entryBlocked = false ∧
        s.lpu.exitBlocked = false ∧ s.lpu.clearance = none ∧ s.wu.guardPos = none ∧ s.portIdle) ∧
      precedes (s.lpu.linePos + 1#24) 15480#24 = true ∧ b.lpu.exitBlocked = true ∧
      b.lpu.exitRun + 1 ≤ b.loader.config.jamLength ∧ b.lpu.exitRun + 1 < 4095 :=
  ⟨⟨⟨rfl, rfl, rfl, 12400#24, rfl, by decide⟩, rfl, rfl, rfl, 12400#24, rfl, by decide⟩, by decide⟩

/-- The speed period in and out of service. -/
theorem witness_speed :
    run.loader.powered = true ∧ run.inService = true ∧ (inMode .offline).inService = false ∧
      (inMode .offline).loader.powered = true := by decide

/-- Piece A fully on the platform, its trailing edge on Ps, with a count below 255 and at 255. -/
theorem witness_sample :
    let r := { pieceA with length := some 880 }
    let s := withRecord r { run with lpu := { run.lpu with linePos := 13380#24 } }
    (s.loader.powered = true ∧ s.loader.mode = some .running ∧ r.presence = .present ∧ r.phase = .measuring ∧
        r.sightPos = some 12400#24 ∧ r.length = some 880 ∧ s.lpu.linePos = 12400#24 + BitVec.ofNat 24 980 ∧
        s.loader.config.ps + 880 ≤ 980 ∧ 980 ≤ s.loader.config.pe) ∧
      r.weighing.count ≠ 255 ∧ { r.weighing with count := 255 }.count = 255 := by decide

/-- An empty platform: a sample at the zero band, one past it, and the one that reaches the limit. -/
theorem witness_zero :
    run.loader.powered = true ∧ run.loader.mode = some .running ∧ (∀ r ∈ run.table.records, r.presence ≠ .present) ∧
      run.lpu.entryBlocked = false ∧ run.wu.guardPos = none ∧
      ((1600#24).toInt - run.wu.zero).natAbs ≤ run.loader.config.zeroBand ∧
      run.loader.config.zeroBand < ((1601#24).toInt - run.wu.zero).natAbs ∧
      run.wu.zeroFaults + 1 < run.loader.config.zeroFaultLimit ∧ run.loader.config.zeroFaultLimit ≤ 2 + 1 ∧
      held.loader.mode ≠ some .running := by decide

/-- What the statements about a forward step with one record ask of the belt. -/
theorem witness_belt (travel : Nat) (r : Record) :
    (before travel r).beltClear ∧ (before travel r).loader.config.ordered = true ∧
      (before travel r).loader.config.x ≤ 4095 ∧ (before travel r).loader.config.k < (before travel r).loader.config.s ∧
      2 ≤ (before travel r).loader.config.width ∧ 1 ≤ (before travel r).loader.config.pitch ∧
      (before travel r).ip.owner = none :=
  ⟨⟨rfl, rfl, rfl, rfl, rfl, rfl, rfl, rfl, rfl, rfl⟩, (by decide : cfg.ordered = true), (by decide : cfg.x ≤ 4095),
    (by decide : cfg.k < cfg.s), (by decide : 2 ≤ cfg.width), (by decide : 1 ≤ cfg.pitch), rfl⟩

/-- Piece A alone, one count short of a landmark. -/
theorem witness_only :
    (before 1100 { pieceA with awaits := .pe }).onlyRecord { pieceA with awaits := .pe } 1100 ∧
      (before 1200 ratedA).onlyRecord ratedA 1200 ∧ (before 1500 claimedA).onlyRecord claimedA 1500 ∧
      (before 1600 armedA).onlyRecord armedA 1600 ∧ (before 1957 armedA).onlyRecord armedA (1600 + (120 - 1) * 3) :=
  ⟨⟨rfl, rfl, rfl, 12400#24, rfl, by decide⟩, ⟨rfl, rfl, rfl, 12400#24, rfl, by decide⟩,
    ⟨rfl, rfl, rfl, 12400#24, rfl, by decide⟩, ⟨rfl, rfl, rfl, 12400#24, rfl, by decide⟩,
    ⟨rfl, rfl, rfl, 12400#24, rfl, by decide⟩⟩

/-- Piece A one count short of Pe, at the end of a weighing with a spread of 10. -/
def atPe : Record :=
  { pieceA with
    awaits := .pe, length := some 880, thickness := 62, terms := some { cls := 2, zone := 5, service := .tracked },
    weighing := { pieceA.weighing with count := 4, sum := 1850, min := some 456, max := some 466 } }

/-- Piece A one count short of Pe, with slot A ACTIVE, some limits and some cache. -/
def askingAtPe (m : Option Limits) (cache : List (List RateLine)) : State :=
  let s := before 1100 atPe
  { s with
    tariff := { s.tariff with slotA := { Slot.blank with state := .active, image := 41 } }
    rater := { s.rater with limits := m, cache := cache } }

/-- The end of weighing: three samples, and four with a spread of 10, without and with job terms. -/
theorem witness_weighing :
    pieceA.phase = .measuring ∧ 3 < cfg.minSamples ∧ cfg.minSamples ≤ atPe.weighing.count ∧ 0 < atPe.weighing.count ∧
      atPe.weighing.min = some 456 ∧ atPe.weighing.max = some 466 ∧ pieceA.terms = none ∧
      decide (466 - 456 ≤ cfg.settleBand) = true ∧ atPe.phase = .measuring ∧ atPe.awaits = .pe ∧
      atPe.terms = some { cls := 2, zone := 5, service := .tracked } ∧ atPe.length = some 880 ∧
      (before 1100 atPe).tariff.slotA.state ≠ .active ∧ (before 1100 atPe).tariff.slotB.state ≠ .active := by decide

/-- A piece of length Pe - Ps one count short of Pe: a sample is attributed to it only at Pe, and only when the forward
step waits next. -/
theorem witness_sample_at_pe :
    let r := { pieceA with awaits := .pe, length := some 1000 }
    let s := before 1100 r
    let w := s.setPending [.forwardStep true true]
    (s.onlyRecord r s.loader.config.pe ∧ w.onlyRecord r w.loader.config.pe) ∧
      (1000 + s.loader.config.ps = s.loader.config.pe ∧ s.loader.config.ps < s.loader.config.pe ∧
        s.loader.config.pe ≤ 4095 ∧ s.loader.powered = true ∧ s.loader.mode = some .running) ∧
      attributedAt s.lpu.linePos s = none ∧ platformEmpty s = false ∧ attributedAtPe s = none ∧
      attributedAtPe w = some r :=
  ⟨⟨⟨rfl, rfl, rfl, 12400#24, rfl, by decide⟩, rfl, rfl, rfl, 12400#24, rfl, by decide⟩, by decide⟩

/-- A cache whose set of class 2 and zone 5 holds that line second. -/
def cache25 : List (List RateLine) := [[], [], [], [], [], [], [], [lineOf 3 4, lineOf 2 5]]

/-- The request taken at Pe: no fitting limit copy; the limits of 05 Table 5-2, which make piece A BULKY; limits that
reject it; a miss, a hit that rates it and a hit that faults it. -/
theorem witness_request :
    let s := askingAtPe none emptyCache
    let m := { limits52 with lengthBulky := 219, lengthOversize := 219 }
    (s.beltClear ∧ s.tariff.active = some .a ∧ s.rater.limits = none) ∧
      (askingAtPe (some { limits52 with image := 40 }) emptyCache).tariff.slotA.image ≠ 40 ∧
      (limits52.image = s.tariff.slotA.image ∧ limits52.thickStandard < 62 ∧ 880 / cfg.cpm ≤ limits52.lengthBulky ∧
        62 ≤ limits52.thickBulky) ∧
      (m.thickStandard < 62 ∧ m.lengthBulky < 880 / cfg.cpm ∧ m.lengthOversize < 880 / cfg.cpm) ∧
      (emptyCache[(2 + 5) % 8]? = some [] ∧ cache25[(2 + 5) % 8]? = some ([lineOf 3 4] ++ lineOf 2 5 :: []) ∧
        (lineOf 3 4).cls ≠ 2 ∧ atPe.foreign = none) ∧
      computeRating 41 cfg.valueCap entry37 steps37 .bulky .tracked 463 false = .rated ratingA ∧
      computeRating 41 cfg.valueCap { entry37 with bulky := false } steps37 .bulky .tracked 463 false =
        .fault .formatBarred := by decide

/-- Piece A with its request pending is the only record, and is one count short of Pe. -/
theorem witness_request_only (m : Option Limits) (cache : List (List RateLine)) :
    (askingAtPe m cache).onlyRecord atPe 1100 ∧ (askingAtPe m cache).beltClear :=
  ⟨⟨rfl, rfl, rfl, 12400#24, rfl, (by decide : (before 1100 atPe).lpu.linePos + 1#24 = 12400#24 + pos 1100)⟩,
    rfl, rfl, rfl, rfl, rfl, rfl, rfl, rfl, rfl, rfl⟩

/-- The decision that claims piece A with the funds it needs exactly. -/
theorem witness_decision_claims :
    let s := { before 1200 ratedA with
               au := { run.au with reserved := 400, committed := 381, outstanding := 2 } }
    ratedA.awaits = .d ∧ ratedA.claim = .opened ∧ ratedA.phase = .rated ∧ ratedA.rating = some (.rated ratingA) ∧
      s.inhibit.isEmpty = true ∧ ratingA.value + s.au.reserved + s.au.committed = s.au.registers.descending ∧
      s.au.registers.count + s.au.outstanding < 999999999 ∧ s.lc.queue.length < 8 := by decide

/-- A queue of eight frames. -/
def eight : List TxEntry := List.replicate 8 (newEntry .refusal 0#4 [5#8, 2#8, 0#8, 0#8, 0#8])

/-- The passes: FAULTED, WEIGHED, FOREIGN, inhibited, one unit short, at the piece limit, with a full queue. -/
theorem witness_decision_passes :
    let s := before 1200 ratedA
    ({ ratedA with phase := .faulted }.claim = .opened ∧ { ratedA with phase := .weighed }.awaits = .d) ∧
      { ratedA with claim := .foreign }.phase = .rated ∧ { s.inhibit with paused := true }.isEmpty = false ∧
      s.au.registers.descending - 400 - 382 < ratingA.value ∧ 999999999 ≤ 999999998 + 1 ∧ eight.length = 8 ∧
      ratingA.value ≤ s.au.registers.descending - s.au.reserved - s.au.committed := by decide

/-- Piece A still RATING one count short of D, its walk at its directory read, OPEN and FOREIGN. -/
theorem witness_late_walk :
    let r := { ratedA with phase := .rating, rating := none }
    let w : State := { walking .directory with lpu := { run.lpu with linePos := 13599#24 } }
    w.onlyRecord r w.loader.config.d ∧
      (w.loader.powered = true ∧ w.loader.mode = some .running ∧ w.lpu.entryBlocked = false ∧
        w.lpu.exitBlocked = false ∧ w.lpu.clearance = none ∧ w.wu.guardPos = none) ∧
      r.awaits = .d ∧ r.claim = .opened ∧ { r with claim := .foreign }.claim = .foreign ∧
      w.rater.walk.map (fun x => x.record) = some (some r.key) ∧ w.tariff.port = some .walkRead :=
  ⟨⟨rfl, rfl, rfl, 12400#24, rfl, by decide⟩, by decide⟩

/-- The commit: the writer idle; a write in flight; the CLAIM still waiting. -/
theorem witness_commit :
    (claimedA.claim = .claimed ∧ claimedA.awaits = .k ∧ claimedA.reserved = some 219 ∧ run.au.write = none ∧
        run.au.queue = []) ∧
      writingState.au.write = some (.debit debitA (debitSet run.au 219)) ∧
      { claimedA with claim := .claiming }.claim = .claiming ∧ claimA.kind = .claim ∧
      claimA.record = some claimedA.key ∧ claimA.onMedium = false ∧ claimA.withdrawn = false := by decide

/-- The print of piece A: at S, in DEBIT_WAIT at S, and at its last column. -/
theorem witness_print :
    let d : StationDate := { ordinal := 100, day := 20, month := 3, year := 26 }
    let s := { before 1600 armedA with tariff := { run.tariff with date := some d } }
    let q := { armedA with claim := .printing, awaits := .column 119, print := some { next := 119, dropped := 0 } }
    (armedA.claim = .armed ∧ armedA.awaits = .s ∧ armedA.rating = some (.rated ratingA) ∧
        armedA.pieceNumber = some 12006 ∧ s.tariff.date = some d) ∧
      committedA.claim = .debitWait ∧ committedA.awaits = .s ∧
      q.awaits = .column (cfg.width - 1) ∧ q.claim = .printing ∧
      q.print = some { next := cfg.width - 1, dropped := 0 } := by decide

/-- Piece A at S while the piece 300 counts before it still has columns to print. -/
theorem witness_overrun :
    let q := { armedA with
               key := 9700#24, sightPos := some 12100#24, claim := .printing, awaits := .column 101
               print := some { next := 101, dropped := 0 } }
    let d : StationDate := { ordinal := 100, day := 20, month := 3, year := 26 }
    let b := before 1600 armedA
    let s := { b with
               table := { b.table with records := [q, armedA] }, tariff := { b.tariff with date := some d }
               ip :=
                 { b.ip with
                   owner :=
                     some { key := 9700#24, content := { value := 219, frameSel := 1, number := 12006, day := 20,
                                                         month := 3, year := 26, serial := 104577 } } } }
    s.beltClear ∧ s.table.records = [q, armedA] ∧
      orderKey (s.lpu.linePos + 1#24) q.key < orderKey (s.lpu.linePos + 1#24) armedA.key ∧
      armedA.presence = .present ∧ armedA.beforeReset = false ∧ armedA.sightPos = some 12400#24 ∧
      s.lpu.linePos + 1#24 = 12400#24 + BitVec.ofNat 24 s.loader.config.s ∧
      targetDue s.loader.config (s.lpu.linePos + 1#24) q = false ∧ q.claim = .printing ∧ armedA.awaits = .s ∧
      armedA.claim = .armed ∧ s.ip.owner.map (fun o => o.key) = some q.key ∧ s.tariff.date = some d := by decide

/-- The exit of piece A: printed, with room for two frames and with room for one; unfranked at the tail and with a peer
downstream; foreign. -/
theorem witness_exit :
    let r := { exitedA with presence := .present, awaits := .exit, exitTarget := some 15480#24 }
    let s := withRecord r { run with lpu := { run.lpu with linePos := 15479#24 } }
    (s.beltClear ∧ r.presence = .present ∧ r.beforeReset = false ∧ r.awaits = .exit ∧
        r.exitTarget = some (s.lpu.linePos + 1#24) ∧ s.lpu.entryOwner = none ∧ r.claim = .ended ∧
        r.pieceNumber ≠ none) ∧
      (eight.take 6).length + 2 ≤ 8 ∧ 8 < (eight.take 7).length + 2 ∧
      { r with pieceNumber := none }.pieceNumber = none ∧ (∀ u ∈ s.cc.peers, u.station ≤ cfg.station) ∧
      cfg.station < ({ station := 3, offset := 4800, d := 1200, k := 1500 } : Peer).station ∧
      { r with claim := .foreign, pieceNumber := none }.claim = .foreign := by decide

/-- A walk of piece A at each of its three reads, attached and detached. -/
theorem witness_walk_error :
    ∀ stage ∈ [WalkStage.header, .directory, .steps],
      let s := walking stage
      let detached (w : Walk) : Walk := { w with record := none }
      let d : State := { s with rater := { s.rater with walk := s.rater.walk.map detached } }
      s.started = true ∧ s.tariff.port = some .walkRead ∧ (s.rater.walk.map (fun w => w.stage)) = some stage ∧
        s.tariff.writes = [] ∧ s.tariff.load = none ∧
        s.table.records = [{ ratedA with phase := .rating, rating := none }] ∧
        s.rater.walk.map (fun w => w.record) = some (some 10000#24) ∧ (∀ r ∈ s.table.records, r.waiting = false) ∧
        d.rater.walk.map (fun w => w.record) = some none ∧ d.table = s.table := by decide

/-- Header limits of 05 Table 5-2 as the bytes of an image. -/
def headerCells : List Host.Cell :=
  [(0, 41#8), (3, 0#8), (4, 245#8), (5, 50#8), (6, 1#8), (7, 97#8), (8, 200#8), (9, 2#8), (10, 98#8), (11, 255#8)]

/-- A header that admits piece A as BULKY at thickness 62, and one that rejects every piece. -/
theorem witness_header :
    let s := withArea headerCells (walking .header)
    let m := parseLimits (memReadRun 20 0 (s.tariff.area .a))
    let z := withArea (headerCells.map (fun c => (c.1, 0#8))) (walking .header)
    let n := parseLimits (memReadRun 20 0 (z.tariff.area .a))
    s.started = true ∧ s.tariff.port = some .walkRead ∧ lookup s.rater.cache 2 5 = none ∧
      (m.lengthStandard < 880 / cfg.cpm ∨ m.thickStandard < 62) ∧ 880 / cfg.cpm ≤ m.lengthBulky ∧
      62 ≤ m.thickBulky ∧ n.lengthStandard < 880 / cfg.cpm ∧ n.lengthBulky < 880 / cfg.cpm ∧
      n.lengthOversize < 880 / cfg.cpm := by decide

/-- A directory entry that is present, and one that is not. -/
theorem witness_directory :
    let s := withArea [(612, 0x86#8)] (walking .directory)
    let e := parseEntry (memReadRun 16 (20 + 16 * (16 * 2 + 5)) (s.tariff.area .a))
    let z := withArea [(612, 0#8)] (walking .directory)
    s.started = true ∧ s.tariff.port = some .walkRead ∧ e.present = true ∧
      (parseEntry (memReadRun 16 612 (z.tariff.area .a))).present = false := by decide

/-- A step table of two steps, bounds 200 and 500, at its offset. -/
def tableCells : List Host.Cell :=
  [(2068, 2#8), (2076, 0#8), (2077, 200#8), (2078, 0#8), (2079, 0#8), (2080, 3#8), (2081, 0x52#8), (2082, 1#8),
    (2083, 0xF4#8), (2084, 0#8), (2085, 0#8), (2086, 4#8), (2087, 0xE2#8)]

/-- The rating of piece A at 500, the bound of its second step. -/
theorem witness_steps :
    let s := withArea tableCells (walking .steps)
    let steps := parseSteps (memReadRun 104 (2068 + 104 * entry37.table) (s.tariff.area .a))
    steps = [{ bound := 200, base := 850 }] ++ { bound := 500, base := 1250 } :: [] ∧ (200 : Nat) < 500 ∧
      entry37.present = true ∧ entry37.permits .bulky = true ∧
      (amountOf entry37 .bulky .tracked 1250 + 9) / 10 = 219 ∧ 219 ≤ s.loader.config.valueCap ∧
      (s.tariff.slot .a).state = .active := by decide +kernel

/-- The faults of the step table read: a barred format, an over flag, a weight past the last bound, a base of 0 with no
fee and no minimum, a value above the cap. -/
theorem witness_steps_faults :
    let s := withArea tableCells (walking .steps)
    let z := withArea (tableCells.map (fun c => if c.1 = 2080 ∨ c.1 = 2081 then (c.1, 0#8) else c)) (walking .steps)
    let steps (s : State) := parseSteps (memReadRun 104 (2068 + 104 * entry37.table) (s.tariff.area .a))
    let free := { entry37 with minimum := 0 }
    entry37.permits .oversize = false ∧ entry37.permits .bulky = true ∧
      { ratedA.weighing with overFlag := true }.overFlag = true ∧ (∀ x ∈ steps s, x.bound < 501) ∧
      steps z = [] ++ { bound := 200, base := 0 } :: [{ bound := 500, base := 1250 }] ∧
      (amountOf free .standard .none 0 + 9) / 10 = 0 ∧
      (amountOf entry37 .bulky .tracked 1250 + 9) / 10 = 219 ∧ { cfg with valueCap := 218 }.valueCap < 219 ∧
      ratedA.terms = some { cls := 2, zone := 5, service := .tracked } ∧ ratedA.weighing.weight = some 463 ∧
      s.rater.walk.map (fun w => w.format) = some (some .bulky) := by decide +kernel

/-- A JOB of number 13, class 2, zone 5, TRACKED, key 10,400. -/
def jobPayload : List Byte := [13#8, 2#8, 5#8, 1#8, 0#8, 0x28#8, 0xA0#8]

/-- JOB on an empty list, for a key the list holds, for another key, out of range, and with a full list. -/
theorem witness_job :
    run.hears 2#4 ∧ jobPayload.length = 7 ∧ fieldAt 0 1 jobPayload = 13 ∧ fieldAt 1 1 jobPayload = 2 ∧
      fieldAt 2 1 jobPayload = 5 ∧ fieldAt 3 1 jobPayload = 1 ∧ BitVec.ofNat 24 (fieldAt 4 3 jobPayload) = 10400#24 ∧
      run.rater.jobs = [] ∧ (jobOf 13 10400#24 true).key = 10400#24 ∧ (jobOf 12 9500#24 true).key ≠ 10400#24 ∧
      7 < fieldAt 1 1 [13#8, 8#8, 5#8, 1#8, 0#8, 0#8, 0#8] ∧ 3 < fieldAt 3 1 [13#8, 2#8, 5#8, 4#8, 0#8, 0#8, 0#8] ∧
      3 ≤ [jobOf 12 9500#24 true, jobOf 13 10400#24 false, jobOf 14 11000#24 false].length := by decide

/-- JOB on a list of one pending job, and on a list of two: a job of the key of either, and one that goes before,
between and after them. -/
theorem witness_job_order :
    let s := { run with rater := { run.rater with jobs := [jobOf 13 10400#24 false], ref := 9500#24 } }
    let x := jobOf 12 9500#24 true
    let y := jobOf 14 11000#24 false
    s.hears 2#4 ∧ s.rater.jobs = [jobOf 13 10400#24 false] ∧ (jobOf 13 10400#24 false).inForce = false ∧
      x.key ≠ 10400#24 ∧ y.key ≠ 10400#24 ∧ x.inForce = true ∧ y.inForce = false ∧
      orderKey 9500#24 x.key < orderKey 9500#24 10400#24 ∧ orderKey 9500#24 10400#24 < orderKey 9500#24 y.key ∧
      orderKey 9500#24 y.key < orderKey 9500#24 11001#24 ∧
      orderKey 9500#24 9499#24 < orderKey 9500#24 x.key := by decide

/-- The completions of the tariff memory port. -/
theorem witness_port :
    let q : SlotRecord := { state := .loading, image := 41, ordinal := 100, length := 2176, invalid := none }
    let s := { run with tariff := { run.tariff with port := some (.statusWrite .a q false) } }
    let loading := { Slot.blank with state := .loading, length := 65536, accepted := 65536 }
    let e := { run with
               tariff :=
                 { run.tariff with
                   port := some (.erase .a true), slotA := loading
                   load := some { slot := .a, erase := .running, check := none } } }
    let b : BufferEntry := { slot := .a, offset := 65528, data := List.replicate 8 0x55#8, started := true }
    let g := { run with
               tariff :=
                 { run.tariff with
                   port := some .program, buffer := [b], slotA := loading
                   load := some { slot := .a, erase := .done, check := none } } }
    (s.started = true ∧ s.rater.walk = none ∧ s.tariff.writes = [] ∧ s.tariff.load = none) ∧
      (e.started = true ∧ e.rater.walk = none ∧ e.tariff.writes = [] ∧ e.tariff.buffer = []) ∧
      g.started = true ∧ g.memorySound = true ∧ g.slotsSound = true ∧ g.rater.walk = none ∧ g.tariff.writes = [] ∧
      g.tariff.load = some { slot := b.slot, erase := .done, check := none } ∧ b.started = true := by decide

/-- A slot LOADING with its erase done and its check in flight. -/
def checking (length : Nat) (c : Option Check) : State :=
  { run with
    tariff :=
      { run.tariff with
        slotA := { Slot.blank with state := .loading, image := 41, ordinal := 100, length := length, accepted := length }
        load := some { slot := .a, erase := .done, check := c }
        port := c.map (fun _ => .checkRead true) } }

/-- The least image: one step table of one step, every directory entry absent. -/
def leastImage : List Byte :=
  let body : List Byte :=
    [41#8, 0#8, 100#8] ++ List.replicate 9 0#8 ++ [1#8] ++ List.replicate 2055 0#8 ++ [1#8] ++ List.replicate 7 0#8 ++
      [0#8, 200#8, 0#8, 0#8, 0#8, 1#8] ++ List.replicate 90 0#8
  body ++ beBytes 4 (crc32 body).toNat

/-- The check: a run that goes on, a CRC that fails on 4 bytes, and the images that fail and pass the structure check.
-/
theorem witness_check :
    let c : Check := { crc := 0#32, offset := 0, failed := false }
    let s := checking 4 (some c)
    s.started = true ∧ s.tariff.port = some (.checkRead true) ∧ s.rater.walk = none ∧ s.tariff.writes = [] ∧
      s.tariff.buffer = [] ∧ s.tariff.date = none ∧
      s.tariff.load = some { slot := .a, erase := .done, check := some c } ∧ c.offset + 3 < (s.tariff.slot .a).length ∧
      (s.tariff.slot .a).length ≤ c.offset + 4 ∧
      crcOk 4 c.crc (memReadRun 4 0 (s.tariff.area .a)) = false := by decide

/-- An image that passes both checks, and passes the first alone under another ordinal. -/
theorem witness_images :
    let slot := (checking 2176 none).tariff.slotA
    leastImage.length = 2176 ∧ slot.length = 2176 ∧ crcOk 2176 (crc32 (leastImage.take 2172)) leastImage = true ∧
      structureOk slot leastImage = true ∧ structureOk { slot with ordinal := 101 } leastImage = false := by
  simp only [crcOk, leastImage, crc32_forced]; decide +kernel

/-- DATE: 20.03.26 on day 100, out of range, with and without a candidate; a candidate beside an ACTIVE slot, beside a
candidate of the same date, which gives way in slot B, and of an earlier date, and beside a READY slot of a later date.
-/
theorem witness_date :
    let p : List Byte := [0#8, 100#8, 20#8, 3#8, 26#8]
    let slots (a b : Slot) := { run with tariff := { run.tariff with slotA := a, slotB := b } }
    let ready (n : Nat) : Slot := { Slot.blank with state := .ready, ordinal := n }
    let s := slots Slot.blank (ready 100)
    let o := slots { ready 99 with state := .active } (ready 100)
    let c := slots (ready 100) (ready 100)
    let l := slots (ready 99) (ready 100)
    let n := slots (ready 101) (ready 100)
    (run.hears 15#4 ∧ fieldAt 0 2 p = 100 ∧ fieldAt 2 1 p = 20 ∧ fieldAt 3 1 p = 3 ∧ fieldAt 4 1 p = 26 ∧ s.portIdle ∧
        (∀ id ∈ [SlotId.a, SlotId.b], (run.tariff.slot id).state ≠ .ready) ∧ (s.tariff.slot .b).state = .ready ∧
        (s.tariff.slot .b).ordinal ≤ 100 ∧ (s.tariff.slot SlotId.b.other).state = .empty ∧
        fieldAt 3 1 [0#8, 100#8, 20#8, 13#8, 26#8] = 13) ∧
      (o.portIdle ∧ (o.tariff.slot SlotId.b.other).state = .active ∧ (o.tariff.slot .b).state = .ready) ∧
      ((c.tariff.slot .a).state = .ready ∧ (c.tariff.slot SlotId.a.other).ordinal = (c.tariff.slot .a).ordinal ∧
        (c.tariff.slot .a).ordinal ≤ 100) ∧
      ((l.tariff.slot .b).state = .ready ∧ (l.tariff.slot SlotId.b.other).ordinal < (l.tariff.slot .b).ordinal) ∧
      (n.tariff.slot SlotId.b.other).state = .ready ∧ 100 < (n.tariff.slot SlotId.b.other).ordinal := by decide

/-- The frames of a load: an OPEN of 65,536 bytes, a DATA that ends at the declared length, a CLOSE. -/
theorem witness_tariff_frames :
    let o : List Byte := [0#8, 41#8, 0#8, 100#8, 1#8, 0#8, 0#8]
    let d : List Byte := [0#8, 0#8, 4#8, 1#8, 2#8, 3#8, 4#8, 5#8, 6#8, 7#8, 8#8]
    let s := checking 4 none
    let l := { s with tariff := { s.tariff with slotA := { s.tariff.slotA with length := 12 } } }
    (run.hears 2#4 ∧ fieldAt 0 1 o = 0 ∧ fieldAt 1 1 o ≠ 0 ∧ fieldAt 4 3 o = 65536 ∧
        (run.tariff.slot .a).state ≠ .active ∧ run.tariff.marker = none ∧ (run.tariff.slot .b).state = .empty) ∧
      (l.hears 2#4 ∧ l.started = true ∧ l.tariff.port = none ∧ fieldAt 1 2 d = (l.tariff.slot .a).accepted ∧
        (l.tariff.slot .a).accepted + (d.length - 3) = (l.tariff.slot .a).length) ∧
      (s.tariff.slot .a).length ≤ (s.tariff.slot .a).accepted := by decide

/-- The refusals of an OPEN: slot code 2, an image of 65,537 bytes, an ACTIVE slot, a SUPERSEDED slot under the walk
marker, and the image id of the other slot; of a DATA and a CLOSE: no load, an offset ahead, 13 bytes declared and 12
there, a full buffer, an erase that runs, and bytes missing. -/
theorem witness_tariff_refusals :
    let o (slot image : Byte) : List Byte := [slot, image, 0#8, 100#8, 0#8, 8#8, 0x80#8]
    let wide : List Byte := [0#8, 41#8, 0#8, 100#8, 1#8, 0#8, 1#8]
    let d (n : Byte) : List Byte := [0#8, 0#8, n, 1#8, 2#8]
    let k : List Byte := [0#8, 0#8, 0#8, 0#8, 0#8]
    let active := { run with tariff := { run.tariff with slotA := { Slot.blank with state := .active, image := 41 } } }
    let left := { active with
                  tariff :=
                    { active.tariff with
                      slotA := { Slot.blank with state := .superseded, image := 41 }, marker := some .a } }
    let l := checking 12 none
    let m := { l with tariff := { l.tariff with slotA := { l.tariff.slotA with accepted := 4 } } }
    let b : BufferEntry := { slot := .a, offset := 0, data := [1#8, 2#8], started := false }
    let f := { m with tariff := { m.tariff with buffer := [b, { b with offset := 2 }] } }
    let e := { m with tariff := { m.tariff with load := some { slot := .a, erase := .running, check := none } } }
    let c := checking 12 (some { crc := 0#32, offset := 0, failed := false })
    (run.hears 2#4 ∧ 1 < fieldAt 0 1 (o 2#8 41#8) ∧ 65536 < fieldAt 4 3 wide ∧ fieldAt 4 3 (o 0#8 41#8) = 2176) ∧
      ((active.tariff.slot .a).state = .active ∧ fieldAt 1 1 (o 0#8 41#8) ≠ 0) ∧
      ((left.tariff.slot .a).state = .superseded ∧ left.tariff.marker = some .a) ∧
      ((active.tariff.slot .b).state = .empty ∧ (active.tariff.slot SlotId.b.other).image = fieldAt 1 1 (o 1#8 41#8)) ∧
      ((run.tariff.slot .a).state ≠ .loading ∧
        c.tariff.load.map (fun l => (l.slot, l.check.isSome)) = some (.a, true)) ∧
      ((m.tariff.slot .a).state = .loading ∧ m.tariff.load = some { slot := .a, erase := .done, check := none } ∧
        fieldAt 1 2 (d 5#8) ≠ (m.tariff.slot .a).accepted ∧ fieldAt 1 2 (d 4#8) = (m.tariff.slot .a).accepted) ∧
      ((l.tariff.slot .a).length < (l.tariff.slot .a).accepted + ((d 12#8).length - 3) ∧
        fieldAt 1 2 (d 12#8) = (l.tariff.slot .a).accepted) ∧
      (f.tariff.buffer.length = 2 ∧ (f.tariff.slot .a).accepted + ((d 4#8).length - 3) ≤ (f.tariff.slot .a).length) ∧
      (e.tariff.load = some { slot := .a, erase := .running, check := none } ∧ f.tariff.buffer ≠ []) ∧
      m.tariff.buffer = [] ∧ (m.tariff.slot .a).accepted < (m.tariff.slot .a).length ∧ k.length = 5 := by decide

/-- An OPEN of slot A, and one of slot B, during a load of slot A with each operation of a load on the port. -/
theorem witness_abandon :
    let s (now : PortOp) := { checking 12 none with tariff := { (checking 12 none).tariff with port := some now } }
    ∀ now ∈ [PortOp.erase .a true, .checkRead true, .program],
      (s now).hears 2#4 ∧ (s now).tariff.load.map (fun l => l.slot) = some .a ∧ (s now).tariff.writes = [] ∧
        (s now).tariff.port = some now ∧ ((s now).tariff.slot .a).state = .loading ∧
        ((s now).tariff.slot SlotId.a.other).state = .empty ∧ ((s now).tariff.slot .b).state = .empty ∧
        ((s now).tariff.slot SlotId.b.other).state = .loading := by decide

/-- A debit write of piece A: PRESENT, EXITED, with another debit behind it, with a full ring. -/
theorem witness_debit :
    writingState.loader.powered = true ∧ writingState.au.write = some (.debit debitA (debitSet run.au 219)) ∧
      writingState.au.faulted = false ∧ writingState.table.records = [committedA] ∧ committedA.key = debitA.key ∧
      committedA.claim = .debitWait ∧ committedA.rating = some (.rated ratingA) ∧
      (List.replicate 16 (ringEntryOf committedA)).length ≤ 16 ∧ committedA.presence = .present ∧
      { committedA with presence := .exited }.presence = .exited ∧ writingState.au.queue = [] ∧
      [({ key := 11000#24, amount := 436 } : DebitItem)] ≠ [] ∧ writingState.rater.walk = none ∧
      writingState.lpu.entryOwner = none := by decide

/-- CREDIT 5,000 number 37: accepted, BUSY, out of sequence, out of range, at the limit; and its completion. -/
theorem witness_credit :
    let p : List Byte := [0#8, 0#8, 0x13#8, 0x88#8, 0#8, 37#8]
    let s := { run with au := { run.au with write := some (.credit (creditSet run.au 5000)) } }
    run.hears 2#4 ∧ fieldAt 0 4 p = 5000 ∧ fieldAt 4 2 p = run.au.registers.nextCredit ∧ run.au.faulted = false ∧
      run.au.write = none ∧ run.au.queue = [] ∧ 5000 ≤ run.loader.config.creditLimit ∧ s.au.write ≠ none ∧
      run.au.registers.nextCredit ≠ 38 ∧ run.loader.config.creditLimit < 100001 ∧
      { run.au with faulted := true }.faulted = true ∧ s.loader.powered = true ∧ s.au.queue = [] := by decide

/-- Queries in RUNNING, and in OFFLINE with an empty queue. -/
theorem witness_queries :
    run.hears 2#4 ∧ run.loader.mode = some .running ∧ (inMode .offline).loader.powered = true ∧
      (inMode .offline).lc.idleSeen = true ∧ (inMode .offline).loader.mode = some .offline ∧
      (inMode .offline).lc.queue = [] ∧ (2#4 = (inMode .offline).loader.number) := by decide

/-- The cases of the screening, each on a CREDIT or a LINE RESET. -/
theorem witness_screening :
    frameOfCommand (.credit 3#4 2#4 (cut [1#8])) = some (.credit, 3#4, 2#4, cut [1#8]) ∧
      (cut [1#8]).check ≠ some (crc16 (checkedBits Kind.credit.code 3#4 2#4 [1#8])) ∧ State.reset.lc.idleSeen = false ∧
      12 < (List.replicate 13 0#8).length ∧ run.hears 15#4 ∧ Kind.credit.terminal = true ∧
      ([1#8] : List Byte).length < Kind.credit.payloadLength ∧ (3#4 ≠ (2#4 : Node)) ∧
      frameOfCommand (.lineReset 0#4 15#4 resetBody) = some (.lineReset, 0#4, 15#4, resetBody) ∧
      resetBody = goodBody .lineReset 0#4 15#4 [] ∧ (2#4 ≠ (15#4 : Node)) :=
  ⟨rfl, by simp [cut], rfl, by decide, by decide, rfl, by decide, by decide, rfl, rfl, by decide⟩

/-- A queue with its second frame on the medium, failed six times. -/
def attempting : State :=
  withQueue [newEntry .release 15#4 [0#8, 0#8, 1#8], { sending .refusal [5#8, 2#8, 0#8, 0#8, 0#8] with failures := 6 }] run

/-- An attempt that starts, and one in progress behind a frame admitted since. -/
theorem witness_attempts :
    let s := withQueue eight run
    (s.started = true ∧ s.lc.idleSeen = true ∧ s.lc.queue = eight ∧ ∀ x ∈ s.lc.queue, x.onMedium = false) ∧
      attempting.loader.powered = true ∧
      attempting.lc.queue =
        [newEntry .release 15#4 [0#8, 0#8, 1#8]] ++
          { sending .refusal [5#8, 2#8, 0#8, 0#8, 0#8] with failures := 6 } :: [] ∧
      (∀ x ∈ [newEntry .release 15#4 [0#8, 0#8, 1#8]], x.onMedium = false) ∧
      { sending .refusal [5#8, 2#8, 0#8, 0#8, 0#8] with failures := 6 }.failures < 7 := by decide

/-- The eighth failure of a CLAIM, of a reply after two abandonments, and of a PIECE REPORT in HOLD and in RUNNING. -/
theorem witness_eighth :
    let e := { claimA with onMedium := true, failures := 7 }
    let r := { claimedA with claim := .claiming }
    let s := withQueue [e] (withRecord r run)
    let f := { sending .refusal [5#8, 2#8, 0#8, 0#8, 0#8] with failures := 7 }
    let g := { sending .pieceReport (reportPart1 exitedA) with failures := 8 }
    (s.loader.powered = true ∧ s.lc.queue = [e] ∧ e.onMedium = true ∧ e.withdrawn = false ∧ e.failures = 7 ∧
        e.kind = .claim ∧ e.record = some r.key ∧ s.table.records = [r] ∧ r.claim = .claiming ∧
        r.presence = .present ∧ r.reserved = some 219 ∧ s.lc.abandons ≤ 1) ∧
      (f.failures = 7 ∧ f.kind = .refusal ∧ run.table.records = [] ∧ run.rater.walk = none ∧
        2 ≤ { run.lc with abandons := 2 }.abandons ∧ run.loader.mode = some .running) ∧
      (g.failures = 8 ∧ g.kind = .pieceReport ∧ held.loader.mode ≠ some .running ∧ g.onMedium = true ∧
        g.withdrawn = false) ∧
      { g with failures := 7 }.failures = 7 := by decide

/-- Deliveries: the CLAIM of piece A, a withdrawn CLAIM, a PIECE REPORT with piece A waiting to be reported. -/
theorem witness_delivery :
    let e := { claimA with onMedium := true }
    let r := { claimedA with claim := .claiming }
    let s := withQueue [e] (withRecord r run)
    let g := sending .pieceReport (reportPart1 exitedA)
    (s.loader.powered = true ∧ s.lc.queue = [e] ∧ e.onMedium = true ∧ s.table.records = [r] ∧ e.kind = .claim ∧
        e.record = some r.key ∧ e.withdrawn = false ∧ r.presence = .present ∧ r.claim = .claiming) ∧
      { e with withdrawn := true }.record = some 10000#24 ∧ g.kind = .pieceReport ∧ g.onMedium = true ∧
      exitedA.presence = .exited ∧ exitedA.claim = .ended ∧ run.rater.walk = none ∧ run.lpu.entryOwner = none := by decide

/-- A LINE RESET heard in UNSYNCED, RUNNING and HOLD, with seven PIECE REPORTs in the queue; with records of each kind
that stays or is reported; with a job in force behind another, and with none in force. -/
theorem witness_lineReset :
    let s := withQueue (List.replicate 7 (newEntry .pieceReport 0#4 (reportPart1 exitedA))) run
    let l : List Job := [jobOf 12 9500#24 false] ++ jobOf 13 10400#24 true :: [jobOf 14 11000#24 false]
    s.hears 15#4 ∧ held.hears 15#4 ∧ (inMode .unsynced).hears 15#4 ∧ s.loader.mode = some .running ∧
      (s.lc.queue.filter (fun e => e.kind == .pieceReport)).length < 8 ∧ mixed.hears 15#4 ∧ mixed.fundsSound = true ∧
      (∀ x ∈ l.take 1, x.inForce = false) ∧ (jobOf 13 10400#24 true).inForce = true ∧
      (∀ x ∈ [jobOf 14 11000#24 false], x.inForce = false) ∧ run.rater.jobs = [] := by decide

/-- A CLAIM of key 10,020 by a station of weight 453, step 0, image 41. -/
def claimPayload : List Byte := [0#8, 0x27#8, 0x24#8, 1#8, 0xC5#8, 0#8, 41#8, 0#8, 0#8, 0xDB#8]

/-- A foreign CLAIM on piece A in each of its phases, and on a key that no record matches. -/
theorem witness_claim :
    let f : ForeignClaim := { station := 3, weight := 453, step := 0, image := 41 }
    let s := withRecord claimedA run
    (s.hears 15#4 ∧ claimPayload.length = 10 ∧ (3#4 ≠ s.loader.number ∧ (3#4 : Node) ≠ 15#4) ∧
        BitVec.ofNat 24 (fieldAt 0 3 claimPayload) = 10020#24 ∧
        f = { station := (3#4).toNat, weight := fieldAt 3 2 claimPayload, step := fieldAt 5 1 claimPayload,
              image := fieldAt 6 1 claimPayload } ∧
        within s.loader.config.window claimedA.key 10020#24 = true) ∧
      ({ claimedA with disputeSent := true }.disputeSent = true ∧ claimedA.debitedHere = false ∧
        armedA.debitedHere = true ∧ { ratedA with presence := .exited, claim := .ended }.debitedHere = false) ∧
      (cfg.station ≤ f.station ∧ { f with station := 1 }.station < cfg.station ∧ s.lc.queue = [] ∧
        claimedA.reserved = some 219 ∧ claimedA.pieceNumber = none) ∧
      ({ claimedA with claim := .claiming }.claim = .claiming ∧ claimedA.presence = .present ∧ claimA.kind = .claim ∧
        claimA.record = some claimedA.key ∧ claimA.withdrawn = false ∧ claimA.onMedium = false ∧
        { claimA with onMedium := true }.onMedium = true) ∧
      (ratedA.claim = .opened ∧ ratedA.phase = .rated ∧ ratedA.weighing.settled = true ∧
        ratedA.disputeSent = false ∧ ratedA.weighing.weight = some 463) ∧
      (∀ q ∈ run.table.records, within run.loader.config.window q.key 10020#24 = false) ∧
      precedes run.lpu.linePos (10020#24 + BitVec.ofNat 24 (cfg.offset + cfg.window + 1)) = true := by decide

/-- A RELEASE by the kept claimant of a NOTICED record, of a PRESENT one before and from D on, and by another. -/
theorem witness_release :
    let f : ForeignClaim := { station := 1, weight := 453, step := 0, image := 41 }
    let r := { ratedA with claim := .foreign, foreign := some f }
    let s := withRecord r run
    let p : List Byte := [0#8, 0x27#8, 0x24#8]
    s.hears 15#4 ∧ (1#4 ≠ s.loader.number) ∧ s.table.records = [r] ∧
      within s.loader.config.window r.key (BitVec.ofNat 24 (fieldAt 0 3 p)) = true ∧ f.station = (1#4).toNat ∧
      r.presence = .present ∧ r.awaits = .d ∧ { r with awaits := .k }.awaits = .k ∧
      (noticedRecord cfg 10000#24 f).presence = .noticed ∧ s.rater.walk = none ∧ s.lpu.entryOwner = none ∧
      r.foreign.map (fun f => f.station) ≠ some (3#4).toNat := by decide

/-- A DISPUTE of piece A against station 2, with its entry in the ring clear and marked, and with none. -/
theorem witness_dispute :
    let e : RingEntry := { key := 10000#24, step := 1, weight := 463, marked := false }
    let o : RingEntry := { e with key := 10041#24 }
    let p : List Byte := [0#8, 0x27#8, 0x10#8, 2#8, 1#8, 0xC5#8, 0#8]
    let s := { run with cc := { run.cc with ring := [o] ++ e :: [] } }
    s.hears 2#4 ∧ fieldAt 3 1 p = s.loader.config.station ∧ BitVec.ofNat 24 (fieldAt 0 3 p) = 10000#24 ∧
      within s.loader.config.window e.key 10000#24 = true ∧
      (∀ x ∈ [o] ++ [], within s.loader.config.window x.key 10000#24 = false) ∧ e.marked = false ∧
      { e with marked := true }.marked = true ∧
      (∀ x ∈ run.cc.ring, within run.loader.config.window x.key 10000#24 = false) := by decide

/-- The controls, heard by the station, and an ONLINE of the upstream station of 01 Table 1-4 and of its own number. -/
theorem witness_controls :
    let p : List Byte := [0#8, 0#8, 4#8, 0xB0#8, 5#8, 0xDC#8]
    run.hears 15#4 ∧ p.length = 6 ∧ (1#4 ≠ run.loader.number) ∧ 2#4 = run.loader.number ∧
      ({ station := (1#4).toNat, offset := 0, d := 1200, k := 1500 } : Peer) =
        { station := (1#4).toNat, offset := fieldAt 0 2 p, d := fieldAt 2 2 p, k := fieldAt 4 2 p } := by decide

/-- The last row of a column, under the geometry of 08 WORKED COMPOSITION. -/
theorem witness_column : 47 < 48 ∧ 1 ≤ cfgPrint.cellWidth ∧ cfgPrint.cellHeight ≤ 16 := by decide

end Sys2Proof.Tests
end

section
/-! PROOFS. The Weighing Unit (03): which record a sample is attributed to, what accumulating it does, and the settled
statements of the family. -/

namespace Sys2Proof.Laws

open Sys2Proof.Machine

/-! ### A record on the platform (03 R43, R44) -/

/-- The line does not precede a position that it has passed by at most 8,388,607 counts (01 R2). -/
theorem not_precedes_passed (p : Pos) {d : Nat} (hd : d ≤ 8388607) : precedes (p + BitVec.ofNat 24 d) p = false := by
  have hback : (p - (p + BitVec.ofNat 24 d)).toNat = (16777216 - d) % 16777216 := by
    simp only [BitVec.toNat_sub, BitVec.toNat_add, BitVec.toNat_ofNat]
    omega
  simp only [precedes, hback, Bool.and_eq_false_imp, decide_eq_true_eq, decide_eq_false_iff_not]
  omega

/-- The distance that the line has passed a position by. -/
theorem toNat_passed (p : Pos) {d : Nat} (hd : d ≤ 8388607) : (p + BitVec.ofNat 24 d - p).toNat = d := by
  rw [add_sub_cancel_left, BitVec.toNat_ofNat]
  exact Nat.mod_eq_of_lt (by omega)

/-- The leading position is the distance from the sighting. -/
theorem leading_passed {r : Record} {p : Pos} {d : Nat} (hp : r.sightPos = some p) (hd : d ≤ 8388607) :
    leading (p + BitVec.ofNat 24 d) r = some d := by
  simp only [leading, hp, not_precedes_passed p hd, toNat_passed p hd, Bool.false_eq_true, if_false]

/-- The trailing position is behind the leading one by the length. -/
theorem trailing_passed {r : Record} {p : Pos} {d l : Nat} (hp : r.sightPos = some p) (hl : r.length = some l)
    (hld : l ≤ d) (hd : d ≤ 8388607) : trailing (p + BitVec.ofNat 24 d) r = some (d - l) := by
  have hsplit : p + BitVec.ofNat 24 d = p + pos l + BitVec.ofNat 24 (d - l) := by
    rw [pos, BitVec.add_assoc, ← BitVec.ofNat_add, Nat.add_sub_cancel' hld]
  have hdl : d - l ≤ 8388607 := (Nat.sub_le d l).trans hd
  simp only [trailing, hp, hl, hsplit, not_precedes_passed _ hdl, toNat_passed _ hdl, Bool.false_eq_true, if_false]

/-- A PRESENT record whose trailing edge is at Ps or past it, and whose leading edge is not past Pe, is fully on the
platform. -/
theorem fullyOn_passed {c : ConfigCopy} {r : Record} {p : Pos} {d l : Nat} (hpres : r.presence = .present)
    (hp : r.sightPos = some p) (hl : r.length = some l) (hld : l ≤ d) (hd : d ≤ 8388607) (hps : c.ps + l ≤ d)
    (hpe : d ≤ c.pe) : fullyOn c (p + BitVec.ofNat 24 d) r = true := by
  have htrail : c.ps ≤ d - l := Nat.le_sub_of_add_le hps
  simp [fullyOn, hpres, leading_passed hp hd, trailing_passed hp hl hld hd, atLeast, atMost, htrail, hpe]

/-- With one record in the table, a sample is attributed to it where it is MEASURING and fully on the platform. -/
theorem attributedAt_single {s : State} {r : Record} {linePos : Pos} (hrec : s.table.records = [r])
    (hphase : r.phase = .measuring) (hon : fullyOn s.loader.config linePos r = true) :
    attributedAt linePos s = some r := by
  simp [attributedAt, hrec, hphase, hon, aloneOn]

/-! ### Accumulating a sample (03 R45 to R47) -/

/-- The clamp by cases (03 R46). -/
theorem clampSample_eq (v : Int) : clampSample v = if v < 0 then 0 else if 25000 < v then 25000 else v.toNat := by
  unfold clampSample
  split_ifs <;> omega

/-- A full count discards the sample (03 R47). -/
theorem accumulate_full {w : Weighing} (v : Int) (h : w.count = 255) : accumulate v w = w := by
  simp [accumulate, h]

/-- Below a full count the clamped sample joins the count, the sum and the two extremes, and one above 25,000 raises the
over flag (03 R46). -/
theorem accumulate_not_full {w : Weighing} (v : Int) (h : w.count ≠ 255) :
    accumulate v w =
      { w with
        count := w.count + 1
        sum := w.sum + clampSample v
        min := some (min (clampSample v) (w.min.getD (clampSample v)))
        max := some (max (clampSample v) (w.max.getD (clampSample v)))
        overFlag := w.overFlag || decide (25000 < v) } := by
  have hmin (m : Nat) : Nat.min m (clampSample v) = min (clampSample v) m := Nat.min_comm m _
  have hmax (m : Nat) : Nat.max m (clampSample v) = max (clampSample v) m := Nat.max_comm m _
  obtain ⟨count, sum, lowest, highest, settled, overFlag, weight⟩ := w
  have hcount : count ≠ 255 := h
  cases lowest <;> cases highest <;>
    simp only [accumulate, if_neg hcount, hmin, hmax, Option.getD_none, Option.getD_some, min_self, max_self]

/-- The clamp of any accumulated value: a negative one counts as 0, one above 25,000 as 25,000 with the over flag
(03 R46). -/
theorem accumulate_clamps (v : Int) {w : Weighing} (h : w.count ≠ 255) :
    (v < 0 → (accumulate v w).sum = w.sum ∧ (accumulate v w).overFlag = w.overFlag) ∧
    (0 ≤ v → v ≤ 25000 → (accumulate v w).sum = w.sum + v.toNat ∧ (accumulate v w).overFlag = w.overFlag) ∧
    (25000 < v → (accumulate v w).sum = w.sum + 25000 ∧ (accumulate v w).overFlag = true) := by
  rw [accumulate_not_full v h, clampSample_eq]
  refine ⟨fun hneg => ?_, fun hnonneg hle => ?_, fun hover => ?_⟩
  · have hle : ¬ 25000 < v := by omega
    simp [hneg, hle]
  · simp [not_lt.2 hnonneg, not_lt.2 hle]
  · have hnonneg : ¬ v < 0 := by omega
    simp [hnonneg, hover]

/-! ### A sample arrives (03 R42) -/

/-- A change to the one record of the table. -/
theorem updateRecord_single {s : State} {r : Record} (hrec : s.table.records = [r]) (f : Record → Record) :
    s.updateRecord r.key f = { s with table := { s.table with records := [f r] } } := by
  simp [State.updateRecord, State.setTable, hrec]

/-- In RUNNING a sample is taken by the record it is attributed to at its own line position. -/
theorem exec_sampleArrival_attributed {s : State} {r : Record} (raw : BitVec 24) (hpow : s.loader.powered = true)
    (hmode : s.loader.mode = some .running) (hattr : attributedAt s.lpu.linePos s = some r) :
    exec (.sampleArrival raw) s = .next (takeSample raw.toInt r.key s) := by
  have hexec : exec (.sampleArrival raw) s = execSampleArrival raw s := rfl
  simp [hexec, execSampleArrival, State.running, hpow, hmode, hattr]

/-- A sample of a MEASURING record alone in the table and fully on the platform changes its weighing part only. -/
theorem exec_sampleArrival_single {s : State} {r : Record} (raw : BitVec 24) (hpow : s.loader.powered = true)
    (hmode : s.loader.mode = some .running) (hrec : s.table.records = [r]) (hphase : r.phase = .measuring)
    (hon : fullyOn s.loader.config s.lpu.linePos r = true) :
    exec (.sampleArrival raw) s = .next
      { s with
        table :=
          { s.table with
            records :=
              [{ r with
                 weighing :=
                   accumulate (convertSample raw.toInt s.wu.zero s.loader.config.gain) r.weighing }] } } := by
  rw [exec_sampleArrival_attributed raw hpow hmode (attributedAt_single hrec hphase hon), takeSample,
    updateRecord_single hrec]

/-- Settles O28: the piece is alone and fully on the platform, so the sample is accumulated in its record; the clamp is
that of `accumulate`. -/
theorem sampleIsAttributed : Obligations.SampleIsAttributed := by
  refine ⟨?_, fun v w hcount => accumulate_clamps v hcount⟩
  intro s r raw p d l hpow hmode hrec hpres hphase hp hl hline hld hd hps hpe
  have hon : fullyOn s.loader.config s.lpu.linePos r = true := by
    rw [hline]
    exact fullyOn_passed hpres hp hl hld hd hps hpe
  have hexec := exec_sampleArrival_single raw hpow hmode hrec hphase hon
  refine ⟨fun hfull => ?_, fun v x hv hx hcount => ⟨_, hexec, ?_⟩⟩
  · rw [hexec, accumulate_full _ hfull, ← hrec]
  · have hconv : convertSample raw.toInt s.wu.zero s.loader.config.gain = v := hv.symm
    rw [← clampSample_eq] at hx
    rw [hconv, accumulate_not_full v hcount, ← hx]
    exact ⟨rfl, rfl, rfl, rfl, rfl, rfl, rfl⟩

end Sys2Proof.Laws
end


section
/-! PROOFS. The Rating Engine (05): rounding upward, the zone amount, the extras, and the settled statements of the
family. -/

namespace Sys2Proof.Laws

open Sys2Proof.Machine

/-! ### Rounding upward (05 R99) -/

/-- The model's division is Mathlib's, so it is the least quotient that covers the dividend. -/
theorem ceilDiv_le_iff (a c : Nat) {b : Nat} (hb : 0 < b) : ceilDiv a b ≤ c ↔ a ≤ b * c := by
  rw [ceilDiv, ← Nat.ceilDiv_eq_add_pred_div, ceilDiv_le_iff_le_mul hb]

/-- The quotient covers the dividend. -/
theorem le_mul_ceilDiv (a : Nat) {b : Nat} (hb : 0 < b) : a ≤ b * ceilDiv a b :=
  (ceilDiv_le_iff a _ hb).1 le_rfl

/-- The quotient covers the dividend by less than one divisor. -/
theorem mul_ceilDiv_lt (a : Nat) {b : Nat} (hb : 0 < b) : b * ceilDiv a b < a + b :=
  (Nat.mul_div_le (a + b - 1) b).trans_lt (Nat.sub_one_lt (by omega))

/-! ### The zone amount and the extras (05 R99) -/

/-- The manual's bound of the product of base and zone factor. -/
theorem zoneProduct_le {base factor : Nat} (hbase : base ≤ 999999) (hfactor : factor ≤ 4000) :
    base * factor ≤ 3999996000 :=
  Nat.mul_le_mul hbase hfactor

/-- The manual's bound of the zone amount. -/
theorem zoneAmount_le {base factor : Nat} (hbase : base ≤ 999999) (hfactor : factor ≤ 4000) :
    ceilDiv (base * factor) 1000 ≤ 3999996 :=
  (ceilDiv_le_iff _ _ (by decide)).2 (zoneProduct_le hbase hfactor)

/-- A surcharge is 0 or one of the entry's two, so a bound of both bounds it. -/
theorem surcharge_le {e : DirEntry} {bound : Nat} (hbulky : e.bulkyFee ≤ bound) (hoversize : e.oversizeFee ≤ bound)
    (format : Format) : e.surcharge format ≤ bound := by
  cases format with
  | standard => exact Nat.zero_le bound
  | bulky => exact hbulky
  | oversize => exact hoversize

/-- The fee of BOTH is the largest. -/
theorem fee_le (e : DirEntry) (service : Service) : e.fee service ≤ e.trackedFee + e.signedFee := by
  cases service with
  | none => exact Nat.zero_le _
  | tracked => exact Nat.le_add_right _ _
  | signed => exact Nat.le_add_left _ _
  | both => exact le_rfl

/-- Settles O42: the zone amount is the rounded quotient, the extras are the entry's, and the bound of the amount is the
sum of the bounds of its parts. -/
theorem amountFollowsItsStages : Obligations.AmountFollowsItsStages := by
  intro e format service base
  refine ⟨ceilDiv (base * e.factor) 1000, e.surcharge format, e.fee service, rfl, le_mul_ceilDiv _ (by decide),
    mul_ceilDiv_lt _ (by decide), fun hbase => ?_, fun hbase hfactor => ?_, ?_, ?_,
    fun hbase hfactor => ⟨zoneProduct_le hbase hfactor, zoneAmount_le hbase hfactor⟩,
    fun hbase hfactor hbulky hoversize htracked hsigned => ?_⟩
  · rw [hbase, Nat.zero_mul]
    rfl
  · rw [hbase, hfactor]
    rfl
  · cases format <;> rfl
  · cases service <;> rfl
  · have hz := zoneAmount_le hbase hfactor
    have hsurcharge := surcharge_le hbulky hoversize format
    have hfee := fee_le e service
    omega

end Sys2Proof.Laws
end


section
/-! PROOFS. The configuration copy (10 R197): the blocks leave the Start-up Loader alone, the operations that set the
station mode leave its configuration copy alone, and the settled statement of the family. -/

namespace Sys2Proof.Laws

open Sys2Proof.Machine

/-! ### Shared operations that leave the Loader alone -/

@[simp] theorem accepting_loader (s : State) : s.accepting.loader = s.loader := rfl

@[simp] theorem drawIndex_loader (n : Nat) (s : State) : (drawIndex n s).2.loader = s.loader := by
  obtain h | h := drawIndex_state n s <;> simp [h]

@[simp] theorem detachWalk_loader (k : Pos) (s : State) : (detachWalk k s).loader = s.loader := by
  obtain h | ⟨_, -, -, h⟩ := detachWalk_cases k s <;> simp [h]

@[simp] theorem removeRecord_loader (k : Pos) (s : State) : (removeRecord k s).loader = s.loader := by
  simp [removeRecord_eq]

@[simp] theorem offer_loader (es : List TxEntry) (s : State) : (offer es s).loader = s.loader := by
  obtain ⟨_, h⟩ := offer_frame es s
  simp [h]

@[simp] theorem refuse_loader (kind : Kind) (reason : RefusalReason) (detail : Nat) (s : State) :
    (refuse kind reason detail s).loader = s.loader := offer_loader _ s

@[simp] theorem portNext_loader (s : State) : (portNext s).loader = s.loader := by
  obtain ⟨_, h⟩ := portNext_frame s
  simp [h]

@[simp] theorem startDebit_loader (s : State) : (startDebit s).loader = s.loader := by
  obtain h | ⟨_, _, -, -, h⟩ := startDebit_cases s <;> simp [h]

/-! ### Reports and the blind horizon (02 R28 to R33) -/

@[simp] theorem sendReport_loader (r : Record) (s : State) : (sendReport r s).loader = s.loader := by
  simp [sendReport]

@[simp] theorem offerReports_loader (s : State) : (offerReports s).loader = s.loader := by
  obtain ⟨-, hloader, -⟩ := offerEach_frame (dueReports s) s
  exact hloader

@[simp] theorem offerReportOf_loader (k : Pos) (s : State) : (offerReportOf k s).loader = s.loader := by
  unfold offerReportOf
  split
  · split <;> simp
  · rfl

@[simp] theorem exitArrival_loader (k : Pos) (s : State) : (exitArrival k s).loader = s.loader := by
  unfold exitArrival
  split
  · rfl
  · dsimp only
    split_ifs <;> simp

@[simp] theorem clearHorizon_loader (s : State) : (clearHorizon s).loader = s.loader := by
  unfold clearHorizon
  dsimp only
  split <;> simp

@[simp] theorem offerHorizon_loader (k : Pos) (s : State) : (offerHorizon k s).loader = s.loader := by
  unfold offerHorizon
  dsimp only
  split_ifs <;> simp

/-! ### The Tariff Store and the Rating Engine (04, 05) -/

@[simp] theorem evaluateChangeover_loader (s : State) : (evaluateChangeover s).loader = s.loader := by
  unfold evaluateChangeover
  split
  · rfl
  · split <;> simp

@[simp] theorem finishCheck_loader (id : SlotId) (c : Check) (s : State) : (finishCheck id c s).loader = s.loader := by
  unfold finishCheck
  dsimp only
  split <;> simp

@[simp] theorem takeTariffOpen_loader (p : List Byte) (s : State) : (takeTariffOpen p s).loader = s.loader := by
  unfold takeTariffOpen
  dsimp only
  split
  · simp
  · split_ifs <;> simp

@[simp] theorem takeTariffData_loader (p : List Byte) (s : State) : (takeTariffData p s).loader = s.loader := by
  unfold takeTariffData
  dsimp only
  split
  · simp
  · split_ifs <;> simp

@[simp] theorem takeTariffClose_loader (p : List Byte) (s : State) : (takeTariffClose p s).loader = s.loader := by
  unfold takeTariffClose
  dsimp only
  split
  · simp
  · split_ifs <;> simp

@[simp] theorem takeDate_loader (p : List Byte) (s : State) : (takeDate p s).loader = s.loader := by
  unfold takeDate
  dsimp only
  split <;> simp

@[simp] theorem takeJob_loader (p : List Byte) (s : State) : (takeJob p s).loader = s.loader := by
  unfold takeJob
  dsimp only
  split
  · simp
  · split_ifs <;> simp

@[simp] theorem consultJobs_loader (k : Pos) (s : State) : (consultJobs k s).loader = s.loader := rfl

@[simp] theorem disputeTest_loader (k : Pos) (s : State) : (disputeTest k s).loader = s.loader := by
  unfold disputeTest
  split
  · rfl
  · split
    · dsimp only
      split_ifs <;> simp
    · rfl

@[simp] theorem writeRating_loader (k : Pos) (res : RatingResult) (s : State) :
    (writeRating k res s).loader = s.loader := by
  cases res <;> simp [writeRating]

@[simp] theorem rateRecord_loader (r : Record) (f : Format) (image : Nat) (e : DirEntry) (steps : List Step)
    (s : State) : (rateRecord r f image e steps s).loader = s.loader := by
  unfold rateRecord
  split <;> simp

@[simp] theorem startWalk_loader (r : Record) (t : JobTerms) (id : SlotId) (stage : WalkStage) (f : Option Format)
    (s : State) : (startWalk r t id stage f s).loader = s.loader := rfl

@[simp] theorem takeRequest_loader (r : Record) (s : State) : (takeRequest r s).loader = s.loader := by
  unfold takeRequest
  dsimp only
  split
  · simp
  split
  · simp
  split
  · simp
  split
  · simp
  split
  · simp
  split <;> simp

@[simp] theorem runRater_loader (n : Nat) (s : State) : (runRater n s).loader = s.loader := by
  induction n generalizing s with
  | zero => rfl
  | succ n ih =>
    unfold runRater
    split
    · rfl
    · split
      · rfl
      · simp [ih]

@[simp] theorem takeRequests_loader (s : State) : (takeRequests s).loader = s.loader := runRater_loader _ s

@[simp] theorem fillAfter_loader (w : Walk) (e : WalkEnd) (s : State) : (fillAfter w e s).loader = s.loader := by
  unfold fillAfter
  split
  · split <;> simp
  · rfl
  · rfl

@[simp] theorem rateAttached_loader (w : Walk) (e : WalkEnd) (s : State) :
    (rateAttached w e s).loader = s.loader := by
  unfold rateAttached
  split
  · rfl
  · split
    · rfl
    · split <;> simp

@[simp] theorem endWalk_loader (w : Walk) (e : WalkEnd) (s : State) : (endWalk w e s).loader = s.loader := by
  simp [endWalk]

@[simp] theorem continueWalk_loader (w : Walk) (s : State) : (continueWalk w s).loader = s.loader := rfl

@[simp] theorem headerRead_loader (w : Walk) (error : Bool) (s : State) :
    (headerRead w error s).loader = s.loader := by
  unfold headerRead
  dsimp only
  split
  · simp
  split
  · simp
  split
  · split <;> simp
  · simp

@[simp] theorem directoryRead_loader (w : Walk) (error : Bool) (s : State) :
    (directoryRead w error s).loader = s.loader := by
  unfold directoryRead
  dsimp only
  split_ifs <;> simp

@[simp] theorem stepsRead_loader (w : Walk) (error : Bool) (s : State) : (stepsRead w error s).loader = s.loader := by
  unfold stepsRead
  split
  · simp
  · split <;> simp

/-- A walk read leaves the Loader alone when what its stage does leaves it alone. -/
theorem walkReadComplete_loader {act : Walk → State → State} (hact : ∀ w s, (act w s).loader = s.loader)
    (stage : WalkStage) (s : State) : (walkReadComplete stage act s).loader = s.loader := by
  unfold walkReadComplete
  split
  · split <;> simp [hact]
  · rfl

@[simp] theorem lateRating_loader (k : Pos) (s : State) : (lateRating k s).loader = s.loader := by
  unfold lateRating
  split
  · rfl
  · split <;> simp

/-! ### The Weighing Unit and the Indicium Printer (03, 08) -/

@[simp] theorem emptySample_loader (raw : Int) (s : State) : (emptySample raw s).loader = s.loader := by
  unfold emptySample
  dsimp only
  split <;> simp

@[simp] theorem takeSample_loader (raw : Int) (k : Pos) (s : State) : (takeSample raw k s).loader = s.loader := rfl

@[simp] theorem endOfWeighing_loader (k : Pos) (s : State) : (endOfWeighing k s).loader = s.loader := by
  unfold endOfWeighing
  split
  · rfl
  · split_ifs <;> simp

@[simp] theorem startPrinting_loader (k : Pos) (s : State) : (startPrinting k s).loader = s.loader := by
  unfold startPrinting
  split
  · rfl
  · split
    · rfl
    · dsimp only
      split
      · split <;> simp
      · simp

@[simp] theorem arriveAtS_loader (k : Pos) (s : State) : (arriveAtS k s).loader = s.loader := startPrinting_loader k s

@[simp] theorem arriveAtColumn_loader (k : Pos) (c : Nat) (s : State) : (arriveAtColumn k c s).loader = s.loader := by
  unfold arriveAtColumn
  split
  · dsimp only
    split_ifs <;> simp
  · rfl

/-! ### The Claim Controller (06) -/

@[simp] theorem releaseFunds_loader (r : Record) (s : State) : (releaseFunds r s).loader = s.loader := rfl
@[simp] theorem dropClaim_loader (k : Pos) (s : State) : (dropClaim k s).loader = s.loader := rfl
@[simp] theorem endClaim_loader (k : Pos) (why : PassReason) (s : State) : (endClaim k why s).loader = s.loader := rfl
@[simp] theorem claimRecord_loader (r : Record) (p : RatingPart) (s : State) :
    (claimRecord r p s).loader = s.loader := rfl

@[simp] theorem arriveAtD_loader (k : Pos) (s : State) : (arriveAtD k s).loader = s.loader := by
  unfold arriveAtD decideAtD
  split
  · simp
  · split
    · simp
    · split <;> simp

@[simp] theorem commit_loader (r : Record) (s : State) : (commit r s).loader = s.loader := by simp [commit]

@[simp] theorem withdrawClaim_loader (k : Pos) (s : State) : (withdrawClaim k s).loader = s.loader := by
  unfold withdrawClaim
  split <;> simp

@[simp] theorem arriveAtK_loader (k : Pos) (s : State) : (arriveAtK k s).loader = s.loader := by
  unfold arriveAtK
  split
  · rfl
  · split <;> simp

@[simp] theorem notice_loader (k : Pos) (f : ForeignClaim) (s : State) : (notice k f s).loader = s.loader := by
  unfold notice
  split_ifs <;> simp

@[simp] theorem becomeForeign_loader (k : Pos) (f : ForeignClaim) (s : State) :
    (becomeForeign k f s).loader = s.loader := by
  simp [becomeForeign]

/-- A departure leaves the Loader alone when its other effect leaves it alone. -/
theorem departing_loader {f : State → State} (hf : ∀ s, (f s).loader = s.loader) (s : State) :
    (departing f s).loader = s.loader :=
  departing_keeps (P := fun u => u.loader = s.loader) (fun _ _ h => h) (fun r u _ h => (sendReport_loader r u).trans h)
    (fun u h => (hf u).trans h) rfl

@[simp] theorem yieldTo_loader (r : Record) (f : ForeignClaim) (s : State) : (yieldTo r f s).loader = s.loader := by
  unfold yieldTo
  dsimp only
  split
  · simp [departing_loader]
  · simp

@[simp] theorem claimMatched_loader (r : Record) (f : ForeignClaim) (s : State) :
    (claimMatched r f s).loader = s.loader := by
  unfold claimMatched
  split
  · simp
  split
  · rfl
  split
  · simp
  · split
    · split <;> simp
    · simp
  · split <;> simp
  · split <;> simp
  · simp
  all_goals rfl

@[simp] theorem takeClaim_loader (src : Node) (p : List Byte) (s : State) : (takeClaim src p s).loader = s.loader := by
  unfold takeClaim
  dsimp only
  split
  · rfl
  · split <;> simp

@[simp] theorem releaseMatched_loader (r : Record) (s : State) : (releaseMatched r s).loader = s.loader := by
  unfold releaseMatched
  split
  · simp
  · split <;> simp
  · rfl

@[simp] theorem takeRelease_loader (src : Node) (p : List Byte) (s : State) :
    (takeRelease src p s).loader = s.loader := by
  unfold takeRelease
  split
  · rfl
  · split
    · rfl
    · split <;> simp

@[simp] theorem takeDispute_loader (src : Node) (p : List Byte) (s : State) :
    (takeDispute src p s).loader = s.loader := by
  unfold takeDispute
  split
  · rfl
  · split
    · rfl
    · dsimp only
      split_ifs <;> simp

@[simp] theorem takeClearScale_loader (s : State) : (takeClearScale s).loader = s.loader := rfl
@[simp] theorem takePause_loader (paused : Bool) (s : State) : (takePause paused s).loader = s.loader := rfl

@[simp] theorem takeOnline_loader (src : Node) (p : List Byte) (s : State) :
    (takeOnline src p s).loader = s.loader := by
  unfold takeOnline
  dsimp only
  split_ifs <;> simp

/-! ### The Piece Table, the belt and the Accounting Unit (01, 02, 07) -/

@[simp] theorem tailgateSighting_loader (k : Pos) (r : Record) (s : State) :
    (tailgateSighting k r s).loader = s.loader := by
  unfold tailgateSighting
  dsimp only
  split <;> simp

@[simp] theorem settleSighting_loader (k p : Pos) (s : State) : (settleSighting k p s).2.loader = s.loader := by
  unfold settleSighting
  dsimp only
  split
  · simp
  · split
    · simp
    · split <;> simp

@[simp] theorem handArrival_loader (k : Pos) (t : Target) (s : State) : (handArrival k t s).loader = s.loader := by
  cases t <;> simp [handArrival]

@[simp] theorem reachTarget_loader (k : Pos) (s : State) : (reachTarget k s).loader = s.loader := by
  unfold reachTarget
  split
  · rfl
  · dsimp only
    split
    · split <;> simp
    · split <;> simp
    · simp

@[simp] theorem reachDue_loader (n : Nat) (k : Pos) (s : State) : (reachDue n k s).loader = s.loader :=
  reachDue_keeps (P := fun u => u.loader = s.loader) (fun j u h => (reachTarget_loader j u).trans h) n k rfl

@[simp] theorem discardGuard_loader (s : State) : (discardGuard s).loader = s.loader := by
  unfold discardGuard
  split
  · split <;> simp
  · rfl

@[simp] theorem advanceBelt_loader (phRdy phRdyAgain : Bool) (s : State) :
    (advanceBelt phRdy phRdyAgain s).loader = s.loader := by
  simp [advanceBelt]

@[simp] theorem settleDebit_loader (k : Pos) (s : State) : (settleDebit k s).loader = s.loader := by
  unfold settleDebit
  split <;> simp

@[simp] theorem raiseExhausted_loader (s : State) : (raiseExhausted s).loader = s.loader := by
  unfold raiseExhausted
  split <;> simp

@[simp] theorem takeCredit_loader (p : List Byte) (s : State) : (takeCredit p s).loader = s.loader := by
  unfold takeCredit
  dsimp only
  split_ifs <;> simp

/-! ### Operations that set the station mode or the power -/

@[simp] theorem giveUpRecords_loader (s : State) : (giveUpRecords s).loader = s.loader := by
  obtain ⟨-, -, -, hloader, -⟩ := giveUpRecords_frame s
  exact hloader

/-- Withdrawing several CLAIMs leaves the Loader alone. -/
theorem dropClaims_loader (ks : List Pos) (s : State) :
    (ks.foldl (fun s k => dropClaim k s) s).loader = s.loader := by
  induction ks generalizing s with
  | nil => rfl
  | cons k ks ih => simp [ih]

/-- Offering a RELEASE for each of several keys leaves the Loader alone. -/
theorem offerReleases_loader (n : Nat) (ks : List Pos) (s : State) :
    (inAnyOrder (fun k s => offer [releaseEntry k] s) n ks s).loader = s.loader :=
  inAnyOrder_keeps (P := fun u => u.loader = s.loader) (fun _ _ h => h) (fun _ u h => (offer_loader _ u).trans h) n ks
    rfl

@[simp] theorem enterHold_loader (s : State) : (enterHold s).loader = s.loader := by
  simp [enterHold, offerReleases_loader, dropClaims_loader]

@[simp] theorem holdRequest_config (why : HoldReason) (s : State) :
    (holdRequest why s).loader.config = s.loader.config := by
  unfold holdRequest
  split <;> simp

@[simp] theorem doEvent_config (e : StepEvent) (s : State) : (doEvent e s).loader.config = s.loader.config := by
  cases e <;> simp [doEvent]

@[simp] theorem stepEvents_config (n : Nat) (jam : Bool) (s : State) :
    (stepEvents n jam s).loader.config = s.loader.config :=
  stepEvents_keeps (P := fun u => u.loader.config = s.loader.config) (fun _ _ h => h)
    (fun e u h => (doEvent_config e u).trans h) n jam rfl

@[simp] theorem countAbandon_config (s : State) : (countAbandon s).loader.config = s.loader.config := by
  unfold countAbandon
  dsimp only
  split <;> simp

@[simp] theorem endAttempt_loader (s : State) : (endAttempt s).loader = s.loader := rfl
@[simp] theorem takeOff_loader (s : State) : (takeOff s).loader = s.loader := rfl

@[simp] theorem abandonClaim_loader (k : Pos) (s : State) : (abandonClaim k s).loader = s.loader := by
  unfold abandonClaim
  split
  · rfl
  · split <;> simp

/-- The count of an abandonment may bring HOLD, in either order with the report offers. -/
theorem departing_countAbandon_config (s : State) :
    (departing countAbandon s).loader.config = s.loader.config :=
  departing_keeps (P := fun u => u.loader.config = s.loader.config) (fun _ _ h => h)
    (fun r u _ h => (congrArg Loader.config (sendReport_loader r u)).trans h)
    (fun u h => (countAbandon_config u).trans h) rfl

@[simp] theorem abandon_config (e : TxEntry) (s : State) : (abandon e s).loader.config = s.loader.config := by
  unfold abandon
  rw [departing_countAbandon_config]
  split <;> simp

@[simp] theorem failAttempt_config (e : TxEntry) (s : State) :
    (failAttempt e s).loader.config = s.loader.config := by
  unfold failAttempt
  dsimp only
  split_ifs <;> simp

@[simp] theorem deliver_loader (e : TxEntry) (s : State) : (deliver e s).loader = s.loader := by
  unfold deliver
  dsimp only
  split
  · split
    · simp [departing_loader]
    · simp
  · simp

@[simp] theorem takeLineReset_config (s : State) : (takeLineReset s).loader.config = s.loader.config := by
  unfold takeLineReset resetLink
  dsimp only
  split_ifs <;> simp

@[simp] theorem cutStatusWrite_loader (s : State) : (cutStatusWrite s).loader = s.loader := by
  have hdraw := drawIndex_loader 3 s
  unfold cutStatusWrite
  split
  · split <;> rename_i hi <;> rw [hi] at hdraw <;> exact hdraw
  · rfl

@[simp] theorem powerDown_config (holdUp : Bool) (s : State) :
    (powerDown holdUp s).loader.config = s.loader.config := by
  simp [powerDown]

/-! ### The commands -/

/-- Whatever state the outcome goes on with, it holds the configuration copy of `s`. -/
def KeepsConfig (s : State) (o : Host.Outcome State Fault Refusal) : Prop :=
  ∀ t, o = .next t → t.loader.config = s.loader.config

@[simp] theorem keepsConfig_next {s t : State} : KeepsConfig s (.next t) ↔ t.loader.config = s.loader.config :=
  ⟨fun h => h t rfl, fun h _ ht => by cases ht; exact h⟩

/-- A frame of another node keeps the configuration copy when what its block does keeps it. -/
theorem receive_keepsConfig {kind : Kind} {src dst : Node} {body : FrameBody} {s : State} (act : State → State)
    (hact : ∀ u, (act u).loader.config = u.loader.config) : KeepsConfig s (receive kind src dst body act s) := by
  intro t h
  obtain rfl | rfl | rfl | rfl | rfl := receive_cases h
  · rfl
  · rfl
  · rfl
  · simp
  · exact hact _

section StartUpReads
variable {s : State} (ended : s.loader.mode ≠ none)
include ended

/-- With a station mode the start-up read has ended. -/
theorem inStartUp_of_mode : s.inStartUp = false := by
  simp [State.inStartUp, Option.isSome_iff_ne_none.2 ended]

theorem execConfigurationReadComplete_keepsConfig (bytes : Option (List Byte)) :
    KeepsConfig s (execConfigurationReadComplete bytes s) := by
  simp [execConfigurationReadComplete, inStartUp_of_mode ended]

theorem execStatusRecordRebuildComplete_keepsConfig (readA readB : Bool) :
    KeepsConfig s (execStatusRecordRebuildComplete readA readB s) := by
  simp [execStatusRecordRebuildComplete, inStartUp_of_mode ended]

theorem execBankReadComplete_keepsConfig (match0 match1 : Bool) :
    KeepsConfig s (execBankReadComplete match0 match1 s) := by
  simp [execBankReadComplete, inStartUp_of_mode ended]

end StartUpReads

theorem execForwardStep_keepsConfig (phRdy phRdyAgain : Bool) (s : State) :
    KeepsConfig s (execForwardStep phRdy phRdyAgain s) := by
  unfold execForwardStep
  split <;> simp

theorem execBackwardStep_keepsConfig (s : State) : KeepsConfig s (execBackwardStep s) := by
  unfold execBackwardStep
  dsimp only
  split_ifs <;> simp

theorem execSighting_keepsConfig (s : State) : KeepsConfig s (execSighting s) := by
  unfold execSighting
  dsimp only
  split_ifs <;> simp

theorem execEntryUnblock_keepsConfig (s : State) : KeepsConfig s (execEntryUnblock s) := by
  unfold execEntryUnblock
  dsimp only
  split
  · simp
  · split
    · split_ifs <;> simp
    · split <;> simp

theorem execExitCellBlock_keepsConfig (s : State) : KeepsConfig s (execExitCellBlock s) := by
  unfold execExitCellBlock
  dsimp only
  split <;> simp

theorem execExitCellUnblock_keepsConfig (s : State) : KeepsConfig s (execExitCellUnblock s) := by
  unfold execExitCellUnblock
  dsimp only
  split <;> simp

theorem execSpeedPeriodExpiry_keepsConfig (s : State) : KeepsConfig s (execSpeedPeriodExpiry s) := by
  unfold execSpeedPeriodExpiry
  dsimp only
  split_ifs <;> simp

theorem execSampleArrival_keepsConfig (raw : BitVec 24) (s : State) : KeepsConfig s (execSampleArrival raw s) := by
  intro t h
  obtain rfl | rfl | ⟨_, -, rfl⟩ | ⟨-, rfl⟩ | ⟨_, -, rfl⟩ := sampleArrival_cases h <;> simp

theorem execGaugeArrival_keepsConfig (reading : BitVec 10) (s : State) :
    KeepsConfig s (execGaugeArrival reading s) := by
  unfold execGaugeArrival
  split <;> simp

theorem execHeaderReadComplete_keepsConfig (error : Bool) (s : State) :
    KeepsConfig s (execHeaderReadComplete error s) := by
  simp [execHeaderReadComplete, walkReadComplete_loader]

theorem execDirectoryEntryReadComplete_keepsConfig (error : Bool) (s : State) :
    KeepsConfig s (execDirectoryEntryReadComplete error s) := by
  simp [execDirectoryEntryReadComplete, walkReadComplete_loader]

theorem execStepTableReadComplete_keepsConfig (error : Bool) (s : State) :
    KeepsConfig s (execStepTableReadComplete error s) := by
  simp [execStepTableReadComplete, walkReadComplete_loader]

theorem execStatusWriteComplete_keepsConfig (wrong : Bool) (s : State) :
    KeepsConfig s (execStatusWriteComplete wrong s) := by
  unfold execStatusWriteComplete
  split <;> simp

theorem execEraseComplete_keepsConfig (wrong : List Host.Cell) (s : State) :
    KeepsConfig s (execEraseComplete wrong s) := by
  unfold execEraseComplete
  split <;> simp

theorem execProgramComplete_keepsConfig (wrong : List Host.Cell) (s : State) :
    KeepsConfig s (execProgramComplete wrong s) := by
  unfold execProgramComplete
  split <;> simp

theorem execCheckReadComplete_keepsConfig (count : Nat) (error : Bool) (s : State) :
    KeepsConfig s (execCheckReadComplete count error s) := by
  unfold execCheckReadComplete
  dsimp only
  split
  · split
    · split
      · split <;> simp
      · simp
    · simp
  · simp

theorem execDebitWriteComplete_keepsConfig (s : State) : KeepsConfig s (execDebitWriteComplete s) := by
  unfold execDebitWriteComplete
  split <;> simp

theorem execCreditWriteComplete_keepsConfig (s : State) : KeepsConfig s (execCreditWriteComplete s) := by
  unfold execCreditWriteComplete
  split <;> simp

theorem execAttemptStart_keepsConfig (s : State) : KeepsConfig s (execAttemptStart s) := by
  unfold execAttemptStart
  split
  · simp
  · split <;> simp

theorem execLostArbitration_keepsConfig (s : State) : KeepsConfig s (execLostArbitration s) := by
  unfold execLostArbitration
  split
  · dsimp only
    split <;> simp
  · simp

theorem execReadBackFailure_keepsConfig (s : State) : KeepsConfig s (execReadBackFailure s) := by
  unfold execReadBackFailure
  split <;> simp

theorem execFrameDelivered_keepsConfig (s : State) : KeepsConfig s (execFrameDelivered s) := by
  unfold execFrameDelivered
  split <;> simp

theorem execAttemptFailed_keepsConfig (s : State) : KeepsConfig s (execAttemptFailed s) := by
  unfold execAttemptFailed
  split <;> simp

theorem execPowerLoss_keepsConfig (holdUp : Bool) (s : State) : KeepsConfig s (execPowerLoss holdUp s) := by
  unfold execPowerLoss
  split <;> simp

theorem execFirstIdleSeen_keepsConfig (s : State) : KeepsConfig s (execFirstIdleSeen s) := by
  unfold execFirstIdleSeen
  split <;> simp

/-- Once the start-up read has ended, every command but POWER_ON keeps the configuration copy: the reads of the start-up
do nothing any more, and no other command loads one. -/
theorem exec_keepsConfig {c : Instr} {s : State} (ended : s.loader.mode ≠ none) (notPowerOn : c ≠ .powerOn) :
    KeepsConfig s (exec c s) := by
  cases c with
  | powerOn => exact absurd rfl notPowerOn
  | configurationReadComplete bytes => exact execConfigurationReadComplete_keepsConfig ended bytes
  | statusRecordRebuildComplete readA readB => exact execStatusRecordRebuildComplete_keepsConfig ended readA readB
  | bankReadComplete match0 match1 => exact execBankReadComplete_keepsConfig ended match0 match1
  | forwardStep phRdy phRdyAgain => exact execForwardStep_keepsConfig phRdy phRdyAgain s
  | backwardStep => exact execBackwardStep_keepsConfig s
  | sighting => exact execSighting_keepsConfig s
  | entryUnblock => exact execEntryUnblock_keepsConfig s
  | exitCellBlock => exact execExitCellBlock_keepsConfig s
  | exitCellUnblock => exact execExitCellUnblock_keepsConfig s
  | speedPeriodExpiry => exact execSpeedPeriodExpiry_keepsConfig s
  | sampleArrival raw => exact execSampleArrival_keepsConfig raw s
  | gaugeArrival reading => exact execGaugeArrival_keepsConfig reading s
  | headerReadComplete error => exact execHeaderReadComplete_keepsConfig error s
  | directoryEntryReadComplete error => exact execDirectoryEntryReadComplete_keepsConfig error s
  | stepTableReadComplete error => exact execStepTableReadComplete_keepsConfig error s
  | statusWriteComplete wrong => exact execStatusWriteComplete_keepsConfig wrong s
  | eraseComplete wrong => exact execEraseComplete_keepsConfig wrong s
  | programComplete wrong => exact execProgramComplete_keepsConfig wrong s
  | checkReadComplete count error => exact execCheckReadComplete_keepsConfig count error s
  | debitWriteComplete => exact execDebitWriteComplete_keepsConfig s
  | creditWriteComplete => exact execCreditWriteComplete_keepsConfig s
  | attemptStart => exact execAttemptStart_keepsConfig s
  | lostArbitration => exact execLostArbitration_keepsConfig s
  | readBackFailure => exact execReadBackFailure_keepsConfig s
  | frameDelivered => exact execFrameDelivered_keepsConfig s
  | attemptFailed => exact execAttemptFailed_keepsConfig s
  | powerLoss holdUp => exact execPowerLoss_keepsConfig holdUp s
  | firstIdleSeen => exact execFirstIdleSeen_keepsConfig s
  | lineReset src dst body => exact receive_keepsConfig takeLineReset (by simp)
  | claim src dst body => exact receive_keepsConfig (takeClaim src body.payload) (by simp)
  | release src dst body => exact receive_keepsConfig (takeRelease src body.payload) (by simp)
  | pause src dst body => exact receive_keepsConfig (takePause true) (by simp)
  | resume src dst body => exact receive_keepsConfig (takePause false) (by simp)
  | job src dst body => exact receive_keepsConfig (takeJob body.payload) (by simp)
  | date src dst body => exact receive_keepsConfig (takeDate body.payload) (by simp)
  | dispute src dst body => exact receive_keepsConfig (takeDispute src body.payload) (by simp)
  | credit src dst body => exact receive_keepsConfig (takeCredit body.payload) (by simp)
  | accountQuery src dst body => exact receive_keepsConfig (fun s => offer (accountReport s.au) s) (by simp)
  | clearScale src dst body => exact receive_keepsConfig takeClearScale (by simp)
  | statusQuery src dst body => exact receive_keepsConfig (fun s => offer (statusReport s) s) (by simp)
  | online src dst body => exact receive_keepsConfig (takeOnline src body.payload) (by simp)
  | tariffOpen src dst body => exact receive_keepsConfig (takeTariffOpen body.payload) (by simp)
  | tariffData src dst body => exact receive_keepsConfig (takeTariffData body.payload) (by simp)
  | tariffClose src dst body => exact receive_keepsConfig (takeTariffClose body.payload) (by simp)

/-- Settles O10: a state with a station mode is past the start-up read, and from there no command but POWER_ON loads a
configuration copy. -/
theorem configurationCopyIsKept : Obligations.ConfigurationCopyIsKept := by
  intro c s t ended notPowerOn next
  exact exec_keepsConfig ended notPowerOn t next

end Sys2Proof.Laws
end

section
/-! PROOFS. The front of the queue of waiting commands, the state right after power-on, and what a loss of power, a power-on
and the start-up reads of the status records and the banks bring (04 R79, 07 R136, R137, 10 R189). -/

namespace Sys2Proof.Laws

open Sys2Proof.Machine

/-- Settles O1, by the two cases of `step`. -/
theorem stepRunsTheFrontCommand : Obligations.StepRunsTheFrontCommand :=
  ⟨fun c rest s h => by simp [step, h], fun s h => by simp [step, h]⟩

/-- Settles O8: the record table, the queues and the books of the reset state are empty, and its one bank balances. -/
theorem resetIsSound : Obligations.ResetIsSound := by
  refine ⟨?_, ⟨?_, ?_, ?_⟩, ⟨?_, ?_, ?_, ?_⟩, ?_, ?_, ?_, ?_, ?_⟩ <;> decide

/-- Settles O14: the state that power-on takes keeps the stores of the unpowered part. -/
theorem powerOnTakesThePowerOnState : Obligations.PowerOnTakesThePowerOnState := by
  intro s unpowered
  refine ⟨powerUp s, by simp [exec, execPowerOn, unpowered], ?_⟩
  simp [powerUp, State.reset, emptyCache]

/-! ### Power loss (07 R136) -/

/-- A cut status write reaches the Tariff Store and the count of draws alone. -/
@[simp] theorem cutStatusWrite_au (s : State) : (cutStatusWrite s).au = s.au := by
  have hd := fun n => drawIndex_keeps (P := fun u => u.au = s.au) (fun _ _ h => h) n rfl
  unfold cutStatusWrite
  split
  · have hd := hd 3
    split <;> rename_i e <;> rw [e] at hd <;> exact hd
  · rfl

@[simp] theorem powerDown_au (holdUp : Bool) (s : State) : (powerDown holdUp s).au = cutWrite holdUp s.au := by
  simp [powerDown]

@[simp] theorem setBank_bank_self (au : Account) (id : BankId) (v : Option NvSet) : (au.setBank id v).bank id = v := by
  cases id <;> rfl

@[simp] theorem setBank_bank_other (au : Account) (id : BankId) (v : Option NvSet) :
    (au.setBank id.other v).bank id = au.bank id := by
  cases id <;> rfl

@[simp] theorem setBank_current (au : Account) (id : BankId) (v : Option NvSet) :
    (au.setBank id v).current = au.current := by
  cases id <;> rfl

/-- Settles O15: the write in flight settles into the bank that is not current, and without one the books stay. -/
theorem powerLossSettlesTheWrite : Obligations.PowerLossSettlesTheWrite := by
  refine ⟨fun holdUp s set powered inWrite => ?_, fun holdUp s powered noWrite => ?_⟩
  · refine ⟨powerDown holdUp s, by simp [exec, execPowerLoss, powered], rfl, ?_⟩
    have hcut : cutWrite holdUp s.au =
        { s.au.setBank s.au.current.other (if holdUp then some set else none) with write := none } := by
      obtain hw | ⟨item, hw⟩ := inWrite <;> simp [cutWrite, hw]
    rw [powerDown_au, hcut]
    exact ⟨setBank_current .., setBank_bank_other .., setBank_bank_self ..⟩
  · exact ⟨powerDown holdUp s, by simp [exec, execPowerLoss, powered], rfl, by simp [cutWrite, noWrite]⟩

/-! ### The start-up reads of the status records and the banks (04 R79, 07 R137) -/

/-- Before the last of the three reads the start-up read does not end. -/
theorem endStartUp_waits {s : State} (h : s.loader.configDone = false) : endStartUp s = s := by simp [endStartUp, h]

/-- A record that is absent, EMPTY or LOADING rebuilds an EMPTY slot. -/
theorem rebuiltSlot_empty {readable : Bool} {record : Option SlotRecord}
    (h : readable = false ∨ record = none ∨ ∃ r, record = some r ∧ (r.state = .empty ∨ r.state = .loading)) :
    rebuiltSlot readable record = Slot.blank := by
  obtain h | h | ⟨r, h, hr | hr⟩ := h <;> cases readable <;> simp_all [rebuiltSlot]

/-- Every other record rebuilds its slot. -/
theorem rebuiltSlot_some {r : SlotRecord} (notEmpty : r.state ≠ .empty) (notLoading : r.state ≠ .loading) :
    rebuiltSlot true (some r) =
      { state := r.state, image := r.image, ordinal := r.ordinal, length := r.length, accepted := 0,
        invalid := r.invalid } := by
  unfold rebuiltSlot
  cases h : r.state <;> simp_all

/-- A slot is rebuilt as ACTIVE from an ACTIVE record that can be read, and from no other. -/
theorem rebuiltSlot_active {readable : Bool} {record : Option SlotRecord} :
    (rebuiltSlot readable record).state = .active ↔ readable = true ∧ ∃ r, record = some r ∧ r.state = .active := by
  cases readable <;> cases record <;> simp [rebuiltSlot, Slot.blank]
  rename_i r
  cases h : r.state <;> simp

/-- What becomes of a rebuilt slot beside the other one: two ACTIVE slots lose that state (04 R79). -/
def settledBeside (other slot : Slot) : Slot :=
  if other.state = .active ∧ slot.state = .active then { slot with state := .ready } else slot

theorem settleActive_eq (a b : Slot) : settleActive a b = (settledBeside b a, settledBeside a b) := by
  unfold settleActive settledBeside
  by_cases h : a.state = .active ∧ b.state = .active <;> simp [h, and_comm]

theorem settledBeside_values (other slot : Slot) :
    (settledBeside other slot).image = slot.image ∧ (settledBeside other slot).ordinal = slot.ordinal ∧
      (settledBeside other slot).length = slot.length ∧ (settledBeside other slot).invalid = slot.invalid := by
  unfold settledBeside
  split <;> exact ⟨rfl, rfl, rfl, rfl⟩

theorem settledBeside_of_not {other slot : Slot} (h : other.state = .active → slot.state ≠ .active) :
    settledBeside other slot = slot := if_neg fun hb => h hb.1 hb.2

theorem settledBeside_both {other slot : Slot} (ho : other.state = .active) (h : slot.state = .active) :
    (settledBeside other slot).state = .ready := by simp [settledBeside, ho, h]

/-- The slot rebuilt from a status record of a state. -/
def rebuiltOf (s : State) (readA readB : Bool) (id : SlotId) : Slot :=
  rebuiltSlot (if id = .a then readA else readB) (s.tariff.record id)

/-- Settles O17: each slot is rebuilt from its own record, and two ACTIVE ones settle as READY. -/
theorem rebuildReadsTheStatusRecords : Obligations.RebuildReadsTheStatusRecords := by
  intro s readA readB startUp notYet waits
  let slotOf := fun id : SlotId => settledBeside (rebuiltOf s readA readB id.other) (rebuiltOf s readA readB id)
  let v : Tariff := { s.tariff with slotA := slotOf .a, slotB := slotOf .b }
  refine ⟨{ s with
      tariff := v
      inhibit := { s.inhibit with noTariff := v.active.isNone }
      loader := { s.loader with slotsDone := true } }, ?_, rfl, fun id => ⟨fun hempty => ?_, ?_⟩, ?_, ?_, ?_⟩
  · simp only [exec, execStatusRecordRebuildComplete, startUp, notYet, settleActive_eq]
    rw [endStartUp_waits (by exact waits)]
    rfl
  · have hblank : rebuiltOf s readA readB id = Slot.blank := rebuiltSlot_empty hempty
    have hslot : v.slot id = slotOf id := by cases id <;> rfl
    simp only [hslot, slotOf, hblank]
    rw [settledBeside_of_not (by simp [Slot.blank])]
    rfl
  · intro r hread hr notEmpty notLoading
    have hslot : v.slot id = slotOf id := by cases id <;> rfl
    have hof : rebuiltOf s readA readB id =
        { state := r.state, image := r.image, ordinal := r.ordinal, length := r.length, accepted := 0,
          invalid := r.invalid } := by
      rw [rebuiltOf, hread, hr]
      exact rebuiltSlot_some notEmpty notLoading
    simp only [hslot, slotOf]
    obtain ⟨himage, hordinal, hlength, hinvalid⟩ :=
      settledBeside_values (rebuiltOf s readA readB id.other) (rebuiltOf s readA readB id)
    rw [himage, hordinal, hlength, hinvalid, hof]
    refine ⟨rfl, rfl, rfl, rfl, fun hactive => ?_⟩
    rw [settledBeside_of_not (fun _ => hactive)]
  · intro a b hreadA hreadB ha hb hactiveA hactiveB
    have hA : (rebuiltOf s readA readB .a).state = .active := rebuiltSlot_active.2 ⟨hreadA, a, ha, hactiveA⟩
    have hB : (rebuiltOf s readA readB .b).state = .active := rebuiltSlot_active.2 ⟨hreadB, b, hb, hactiveB⟩
    exact ⟨settledBeside_both hB hA, settledBeside_both hA hB⟩
  · intro id r hread hr hactive hother
    have hslot : v.slot id = slotOf id := by cases id <;> rfl
    have hown : (rebuiltOf s readA readB id).state = .active := rebuiltSlot_active.2 ⟨hread, r, hr, hactive⟩
    have hnot : (rebuiltOf s readA readB id.other).state ≠ .active := by
      intro hboth
      obtain ⟨hreadOther, o, ho, hactiveOther⟩ := rebuiltSlot_active.1 hboth
      obtain hnone | hnone := hother
      · cases id <;> simp_all [SlotId.other]
      · exact hnone o ho hactiveOther
    rw [hslot, show slotOf id = _ from settledBeside_of_not (fun h => absurd h hnot)]
    exact hown
  · simp only [Tariff.active, Option.isNone_iff_eq_none]
    by_cases hA : v.slotA.state = .active <;> by_cases hB : v.slotB.state = .active <;> simp [hA, hB]

/-! ### The bank read (07 R137, R147) -/

/-- The registers are those of the bank that was chosen. -/
theorem registers_of_bank {au : Account} {set : NvSet} (sound : au.faulted = false) (h : au.bank au.current = some set) :
    au.registers = set := by simp [Account.registers, sound, h]

/-- Settles O18: the choice of the bank is `chooseBank`, case by case. -/
theorem bankReadChoosesTheCurrentBank : Obligations.BankReadChoosesTheCurrentBank := by
  intro s match0 match1 startUp notYet waits
  let v := afterBankRead match0 match1 s.au
  refine ⟨{ s with
      au := v
      inhibit := { s.inhibit with exhausted := v.faulted || v.registers.count == Config.pieceCap }
      loader := { s.loader with banksDone := true } }, ?_, ?_, ?_, ?_, ?_, ?_, ?_⟩
  · simp only [exec, execBankReadComplete, startUp, notYet]
    rw [endStartUp_waits (by exact waits)]
    rfl
  · have hbooks : v = { s.au with current := v.current, faulted := v.faulted } := by
      simp only [v, afterBankRead]
      split <;> rfl
    rw [← hbooks]
  · intro h0 h1
    have hv : v = { s.au with faulted := true } := by
      obtain h0 | h0 := h0 <;> obtain h1 | h1 := h1 <;> simp [v, afterBankRead, h0, h1, chooseBank]
    simp [hv, Account.registers]
  · intro a h0 ha h1
    have hv : v = { s.au with current := .zero, faulted := false } := by
      obtain h1 | h1 := h1 <;> simp [v, afterBankRead, h0, ha, h1, chooseBank]
    exact ⟨by rw [hv], registers_of_bank (by rw [hv]) (by rw [hv]; exact ha)⟩
  · intro b h0 h1 hb
    have hv : v = { s.au with current := .one, faulted := false } := by
      obtain h0 | h0 := h0 <;> simp [v, afterBankRead, h0, hb, h1, chooseBank]
    exact ⟨by rw [hv], registers_of_bank (by rw [hv]) (by rw [hv]; exact hb)⟩
  · intro a b h0 h1 ha hb
    have hv : v = { s.au with
        current := if b.generation = (a.generation + 1) % 256 then .one else .zero, faulted := false } := by
      simp only [v, afterBankRead, h0, h1, ha, hb, if_true, chooseBank]
      by_cases hg : b.generation = (a.generation + 1) % 256 <;> simp [hg]
    refine ⟨by rw [hv], registers_of_bank (by rw [hv]) ?_⟩
    rw [hv]
    by_cases hg : b.generation = (a.generation + 1) % 256 <;> simp [Account.bank, hg, ha, hb]
  · intro hsound
    simp only at hsound
    simp [hsound, Config.pieceCap]

end Sys2Proof.Laws
end

section
/-! PROOFS. What each command can do, said once: a property that the elementary changes of the part keep is kept by every
command. `Kept` lists the elementary changes with the conditions under which the operations make them; the lemmas
ending in `_kept` carry it through each operation, and `exec_kept` through the commands. -/

namespace Sys2Proof.Laws

open Sys2Proof.Machine

/-! ### What a change of one record may do to the books (07 R138) -/

/-- A pending debit may belong to this record (07 R141). -/
def owes (r : Record) : Bool := r.claim == .debitWait && r.pieceNumber.isNone && r.presence != .noticed

/-- The record is placed as the funds law asks of each single record. -/
def fundsPlaced (running : Bool) (r : Record) : Bool :=
  r.claimPlaced && r.numberPlaced && (running || r.presence == .exited)

/-- What the funds law reads of one record. -/
def bookFields (r : Record) : Pos × Presence × ClaimPhase × Option Nat × Option Nat × Bool × Target :=
  (r.key, r.presence, r.claim, r.reserved, r.pieceNumber, r.beforeReset, r.awaits)

/-- A record may become another one without a change of the books. -/
def keepsBooks (running : Bool) (r q : Record) : Prop :=
  fundsPlaced running r = true →
    fundsPlaced running q = true ∧ q.held = r.held ∧ givenUp q = givenUp r ∧ (owes r = true → owes q = true)

/-- The keys of the table differ. -/
abbrev keysDiffer (s : State) : Prop := (s.table.records.map (fun r => r.key)).Nodup

/-- A change of the records that keeps keys and books and makes no record CLAIMING. -/
structure Harmless (s : State) (f : Record → Record) : Prop where
  key : ∀ r, (f r).key = r.key
  claiming : ∀ r ∈ s.table.records, (f r).claim = .claiming →
    ∃ q ∈ s.table.records, q.key = r.key ∧ q.claim = .claiming
  books : keysDiffer s → ∀ r ∈ s.table.records, keepsBooks s.running r (f r)

/-- A change of the records of one key. -/
def atKey (k : Pos) (f : Record → Record) (r : Record) : Record := if r.key == k then f r else r

/-- The record goes without a change of the books. -/
def mayGo (running : Bool) (r : Record) : Prop :=
  fundsPlaced running r = true → givenUp r = false ∧ owes r = false

theorem updateRecord_eq (s : State) (k : Pos) (f : Record → Record) :
    s.updateRecord k f = s.setTable { s.table with records := s.table.records.map (atKey k f) } := rfl

/-- The record found under a key stands in the table. -/
theorem record_mem {s : State} {k : Pos} {r : Record} (h : s.record k = some r) :
    r ∈ s.table.records ∧ r.key = k :=
  ⟨List.mem_of_find?_eq_some h, by simpa using List.find?_some h⟩

/-- With unequal keys, the record found under a key is the only one of that key. -/
theorem record_unique {s : State} {k : Pos} {r q : Record} (h : s.record k = some r) (keys : keysDiffer s)
    (hq : q ∈ s.table.records) (hk : q.key = k) : q = r :=
  List.inj_on_of_nodup_map keys hq (record_mem h).1 (hk.trans (record_mem h).2.symm)

/-- With no record of a key, a change at that key changes nothing. -/
theorem updateRecord_none {s : State} {k : Pos} (h : s.record k = none) (f : Record → Record) :
    s.updateRecord k f = s := by
  have hk : ∀ r ∈ s.table.records, r.key ≠ k := by simpa [State.record] using h
  have hmap : s.table.records.map (atKey k f) = s.table.records :=
    (List.map_congr_left fun r hr => by simp [atKey, hk r hr]).trans (List.map_id _)
  rw [updateRecord_eq, hmap]
  rfl

/-- Two changes at one key make one. -/
theorem updateRecord_updateRecord (s : State) (k : Pos) (f g : Record → Record)
    (hf : ∀ r, r.key = k → (f r).key = k) :
    (s.updateRecord k f).updateRecord k g = s.updateRecord k (fun r => g (f r)) := by
  have hfun : atKey k g ∘ atKey k f = atKey k (fun r => g (f r)) := by
    funext r
    by_cases hr : r.key = k <;> simp [atKey, hr, hf r]
  simp only [updateRecord_eq, State.setTable_table, State.setTable_setTable, List.map_map, hfun]

theorem keepsBooks_of_bookFields {running : Bool} {r q : Record} (h : bookFields q = bookFields r) :
    keepsBooks running r q := by
  simp only [bookFields, Prod.mk.injEq] at h
  obtain ⟨hk, hp, hc, hr, hn, hb, ha⟩ := h
  intro hplaced
  simp_all [fundsPlaced, Record.claimPlaced, Record.numberPlaced, Record.held, givenUp, owes]

/-- A record that holds no reservation becomes another one that holds none. -/
theorem keepsBooks_ungiven {running : Bool} {r q : Record} (ungiven : fundsPlaced running r = true → givenUp r = false)
    (still : givenUp q = false) (number : fundsPlaced running r = true → q.numberPlaced = true)
    (place : (running || r.presence == .exited) = true → (running || q.presence == .exited) = true)
    (debit : owes r = true → owes q = true) : keepsBooks running r q := by
  intro hplaced
  have hg := ungiven hplaced
  have hn := number hplaced
  simp only [fundsPlaced, Bool.and_eq_true] at hplaced
  exact ⟨by simp [fundsPlaced, Record.claimPlaced, still, hn, place hplaced.2], by simp [Record.held, hg, still],
    still.trans hg.symm, debit⟩

/-- A change at one key of what the books do not read. -/
theorem harmless_of_bookFields {s : State} {f : Record → Record} (h : ∀ r, bookFields (f r) = bookFields r) :
    Harmless s f where
  key r := congrArg Prod.fst (h r)
  claiming r hr hc := ⟨r, hr, rfl, by
    have := congrArg (fun x => x.2.2.1) (h r)
    exact this.symm.trans hc⟩
  books _ r _ := keepsBooks_of_bookFields (h r)

theorem atKey_bookFields {k : Pos} {f : Record → Record} (h : ∀ r, bookFields (f r) = bookFields r) (r : Record) :
    bookFields (atKey k f r) = bookFields r := by
  unfold atKey
  split
  · exact h r
  · rfl

/-- A change of the record found under a key. -/
theorem harmless_found {s : State} {k : Pos} {r : Record} {f : Record → Record} (hr : s.record k = some r)
    (key : ∀ q, q.key = k → (f q).key = k)
    (claiming : ∀ q, (f q).claim = .claiming → q.claim = .claiming ∨ r.claim = .claiming)
    (books : keepsBooks s.running r (f r)) : Harmless s (atKey k f) where
  key q := by
    unfold atKey
    split
    · rename_i hq
      have hq : q.key = k := by simpa using hq
      rw [key q hq, hq]
    · rfl
  claiming q hq hc := by
    unfold atKey at hc
    split at hc
    · rename_i hk
      obtain h | h := claiming q hc
      · exact ⟨q, hq, rfl, h⟩
      · have hk : q.key = k := by simpa using hk
        exact ⟨r, (record_mem hr).1, (record_mem hr).2.trans hk.symm, h⟩
    · exact ⟨q, hq, rfl, hc⟩
  books keys q hq := by
    unfold atKey
    split
    · rename_i hk
      rw [record_unique hr keys hq (by simpa using hk)]
      exact books
    · exact keepsBooks_of_bookFields rfl

end Sys2Proof.Laws
end

section
/-! PROOFS. The transmit queue (09 R178 to R183): what every change that an operation makes to the Link Controller does
to a sound queue and to the PIECE REPORTs in it. -/

namespace Sys2Proof.Laws

open Sys2Proof.Machine

/-- A frame as the queue may hold it. -/
def entrySound (e : TxEntry) : Prop :=
  lengthFits e = true ∧ (e.failures < 8 ∨ (e.kind = .pieceReport ∧ e.failures = 8)) ∧
    (e.withdrawn = true → e.kind = .claim ∧ e.onMedium = true)

/-- The transmit queue is sound: `State.queueSound`, said of the Link Controller alone. -/
def linkSound (l : Link) : Prop :=
  l.queue.length ≤ Config.queuePlaces ∧ l.queue.Pairwise (fun a b => a.kind.code ≤ b.kind.code) ∧
    (∀ e ∈ l.queue, entrySound e) ∧
    (l.queue.filter (fun e => e.onMedium)).length = (if l.attempt.isSome then 1 else 0)

theorem queueSound_iff (s : State) : s.queueSound ↔ linkSound s.lc := Iff.rfl

/-- The payloads of the PIECE REPORTs of a queue, in their order. -/
def reportsOf (q : List TxEntry) : List (List Byte) :=
  (q.filter (fun e => e.kind == .pieceReport)).map (fun e => e.payload)

/-- A change of the Link Controller that a command makes: it keeps the queue sound, and a PIECE REPORT leaves a sound queue
by delivery or power-on alone. -/
structure LinkChange (c : Instr) (l v : Link) : Prop where
  sound : linkSound l → linkSound v
  reports : linkSound l → c ≠ .frameDelivered → c ≠ .powerOn → (reportsOf l.queue).Sublist (reportsOf v.queue)
  abandons : l.abandons ≤ 3 → v.abandons ≤ 3

variable {c : Instr}

/-! ### Admission (09 R178, R179) -/

/-- A frame as it is offered: fresh, and of the length of its kind. -/
def freshEntry (e : TxEntry) : Prop :=
  lengthFits e = true ∧ e.failures = 0 ∧ e.onMedium = false ∧ e.withdrawn = false

theorem reportsOf_insertEntry (e : TxEntry) (q : List TxEntry) :
    (reportsOf q).Sublist (reportsOf (insertEntry e q)) :=
  ((insertEntry_sublist e q).filter _).map _

theorem insertEntry_change (l : Link) {e : TxEntry} (he : freshEntry e) (room : l.queue.length < Config.queuePlaces) :
    LinkChange c l { l with queue := insertEntry e l.queue } where
  sound := by
    obtain ⟨hfits, hfail, hmed, hwith⟩ := he
    rintro ⟨-, hsort, hall, hmedium⟩
    have hperm := insertEntry_perm e l.queue
    refine ⟨?_, insertEntry_sorted e hsort, fun x hx => ?_, ?_⟩
    · rw [hperm.length_eq]
      exact room
    · obtain rfl | hx := List.mem_cons.1 (hperm.mem_iff.1 hx)
      · exact ⟨hfits, .inl (by omega), by simp [hwith]⟩
      · exact hall x hx
    · rw [(hperm.filter _).length_eq]
      simpa [hmed] using hmedium
  reports _ _ _ := reportsOf_insertEntry e l.queue
  abandons h := h

theorem enqueue_change {es : List TxEntry} {s : State} (he : ∀ e ∈ es, freshEntry e)
    (room : s.lc.queue.length + es.length ≤ Config.queuePlaces) : LinkChange c s.lc (enqueue es s).lc := by
  simp only [enqueue, State.setLc_lc]
  generalize s.lc = l at *
  induction es generalizing l with
  | nil => exact ⟨fun h => h, fun _ _ _ => .refl _, fun h => h⟩
  | cons e es ih =>
    have hroom : l.queue.length + 1 + es.length ≤ Config.queuePlaces := by
      rw [List.length_cons] at room
      omega
    have hone := insertEntry_change (c := c) l (he e (by simp)) (by omega)
    have hrest := ih (fun x hx => he x (by simp [hx])) { l with queue := insertEntry e l.queue }
      (by simpa [(insertEntry_perm e l.queue).length_eq] using hroom)
    exact ⟨fun h => hrest.sound (hone.sound h),
      fun h h1 h2 => (hone.reports h h1 h2).trans (hrest.reports (hone.sound h) h1 h2), fun h => h⟩

/-! ### Withdrawal of a CLAIM (06 R112) -/

theorem dropClaim_change (k : Pos) (s : State) : LinkChange c s.lc (dropClaim k s).lc where
  sound := by
    rintro ⟨hlen, hsort, hall, hmedium⟩
    refine ⟨?_, ?_, fun x hx => ?_, ?_⟩
    · exact (List.length_map _).trans_le ((List.length_filter_le _ _).trans hlen)
    · refine List.pairwise_map.2 ((hsort.filter _).imp fun {a b} hab => ?_)
      split <;> split <;> exact hab
    · obtain ⟨e, he, rfl⟩ := List.mem_map.1 hx
      obtain ⟨hmem, hkept⟩ := List.mem_filter.1 he
      obtain ⟨h1, h2, h3⟩ := hall e hmem
      split
      · rename_i hclaim
        refine ⟨h1, h2, fun _ => ?_⟩
        simp only [hclaim, Bool.true_and, Bool.not_not] at hkept
        simp only [TxEntry.isClaimOf, Bool.and_eq_true, beq_iff_eq] at hclaim
        exact ⟨hclaim.1.1, hkept⟩
      · exact ⟨h1, h2, h3⟩
    · rw [show (dropClaim k s).lc.attempt = s.lc.attempt from rfl, ← hmedium]
      simp only [dropClaim, State.setLc_lc, List.filter_map, List.length_map, List.filter_filter]
      congr 1
      refine List.filter_congr fun e _ => ?_
      by_cases hc : e.isClaimOf k = true <;> simp [hc]
  reports _ _ _ := by
    have hkind : ((fun e : TxEntry => e.kind == .pieceReport) ∘
        fun e : TxEntry => if e.isClaimOf k then { e with withdrawn := true } else e) = fun e => e.kind == .pieceReport := by
      funext e
      by_cases h : e.isClaimOf k = true <;> simp [Function.comp, h]
    have hpayload : ((fun e : TxEntry => e.payload) ∘
        fun e : TxEntry => if e.isClaimOf k then { e with withdrawn := true } else e) = fun e => e.payload := by
      funext e
      by_cases h : e.isClaimOf k = true <;> simp [Function.comp, h]
    have hsame : s.lc.queue.filter (fun e => e.kind == .pieceReport && !(e.isClaimOf k && !e.onMedium)) =
        s.lc.queue.filter (fun e => e.kind == .pieceReport) := by
      refine List.filter_congr fun e _ => ?_
      by_cases h : e.kind = .pieceReport <;> simp [TxEntry.isClaimOf, h]
    simp only [reportsOf, dropClaim, State.setLc_lc, List.filter_map, List.map_map, List.filter_filter, hkind, hpayload,
      hsame]
    exact .refl _
  abandons h := h

/-! ### Attempts (09 R180 to R183) -/

/-- In a sound queue with a frame on the medium, no other frame is on it. -/
theorem onMedium_unique {l : Link} (h : linkSound l) {e x : TxEntry}
    (he : l.queue.find? (fun e => e.onMedium) = some e)
    (hx : x ∈ l.queue) (hm : x.onMedium = true) : x = e := by
  obtain ⟨-, -, -, hmedium⟩ := h
  have hone : (l.queue.filter (fun e => e.onMedium)).length ≤ 1 := by rw [hmedium]; split <;> omega
  have hxin : x ∈ l.queue.filter (fun e => e.onMedium) := List.mem_filter.2 ⟨hx, hm⟩
  have hein : e ∈ l.queue.filter (fun e => e.onMedium) :=
    List.mem_filter.2 ⟨List.mem_of_find?_eq_some he, List.find?_some (p := fun e : TxEntry => e.onMedium) he⟩
  obtain ⟨a, ha⟩ : ∃ a, ∀ y ∈ l.queue.filter (fun e => e.onMedium), y = a := by
    cases hlist : l.queue.filter (fun e => e.onMedium) with
    | nil => exact ⟨x, by simp⟩
    | cons a rest =>
      have hrest : rest = [] := List.eq_nil_of_length_eq_zero (by rw [hlist, List.length_cons] at hone; omega)
      exact ⟨a, by simp [hrest]⟩
  rw [ha x hxin, ha e hein]

/-- The frame on the medium leaves the queue: a PIECE REPORT by delivery alone. -/
theorem takeOff_change {s : State} {e : TxEntry} (he : s.sending = some e)
    (departs : c = .frameDelivered ∨ e.withdrawn = true ∨ e.kind ≠ .pieceReport) :
    LinkChange c s.lc (takeOff s).lc where
  sound := by
    rintro ⟨hlen, hsort, hall, -⟩
    refine ⟨(List.length_filter_le _ _).trans hlen, hsort.filter _, fun x hx => hall x (List.mem_of_mem_filter hx), ?_⟩
    simp [takeOff, List.filter_filter]
  reports hsound hc _ := by
    have hkind : e.kind ≠ .pieceReport := by
      obtain h | h | h := departs
      · exact absurd h hc
      · have := hsound.2.2.1 e (List.mem_of_find?_eq_some he)
        simp [(this.2.2 h).1]
      · exact h
    have hsame : (takeOff s).lc.queue.filter (fun e => e.kind == .pieceReport) =
        s.lc.queue.filter (fun e => e.kind == .pieceReport) := by
      simp only [takeOff, State.setLc_lc, List.filter_filter]
      refine List.filter_congr fun x hx => ?_
      by_cases hm : x.onMedium = true
      · rw [onMedium_unique hsound he hx hm]
        simp [hkind]
      · simp [hm]
    rw [reportsOf, reportsOf, hsame]
  abandons h := h

/-- An attempt ends with the frame still in its place: its failures may be counted on the way, up to 8 for a PIECE REPORT and
less for any other frame. -/
theorem endAttempt_change {s : State} {e : TxEntry} (he : s.sending = some e) (kept : e.withdrawn = false)
    {n : TxEntry → Nat} (count : ∀ x, x.onMedium = false → n x = x.failures)
    (below : n e < 8 ∨ (e.kind = .pieceReport ∧ n e = 8) ∨ n e = e.failures) :
    LinkChange c s.lc
      { s.lc with
        attempt := none, queue := s.lc.queue.map (fun x => { x with failures := n x, onMedium := false }) } where
  sound := by
    intro hsound
    obtain ⟨hlen, hsort, hall, -⟩ := id hsound
    refine ⟨(List.length_map _).trans_le hlen, List.pairwise_map.2 hsort, fun y hy => ?_, ?_⟩
    · obtain ⟨x, hx, rfl⟩ := List.mem_map.1 hy
      obtain ⟨h1, h2, h3⟩ := hall x hx
      by_cases hm : x.onMedium = true
      · rw [onMedium_unique hsound he hx hm] at h1 h2 h3 ⊢
        refine ⟨h1, ?_, fun h => absurd (kept.symm.trans h) (by simp)⟩
        obtain h | h | h := below
        · exact .inl h
        · exact .inr h
        · simpa [h] using h2
      · have hm : x.onMedium = false := by simpa using hm
        refine ⟨h1, by simpa [count x hm] using h2, fun h => ?_⟩
        exact absurd (hm.symm.trans (h3 h).2) (by simp)
    · simp [List.filter_map, Function.comp_def]
  reports _ _ _ := by
    simp [reportsOf, List.filter_map, Function.comp_def]
  abandons h := h

/-- An attempt starts while no frame is on the medium. -/
theorem attemptStart_change {l : Link} {e : TxEntry} {rest : List TxEntry} (idle : l.queue.find? (fun e => e.onMedium) = none)
    (hq : l.queue = e :: rest) (frame : LinkFrame) :
    LinkChange c l
      { l with queue := sendHead l.queue, attempt := some frame, receiver := false, drove := .none } where
  sound := by
    rintro ⟨hlen, hsort, hall, -⟩
    have hnone : ∀ x ∈ e :: rest, x.onMedium = false := by simpa [hq] using idle
    rw [hq] at hlen hsort hall
    have hrest : rest.filter (fun e => e.onMedium) = [] :=
      List.filter_eq_nil_iff.2 fun x hx => by simp [hnone x (by simp [hx])]
    refine ⟨by simpa [hq, sendHead] using hlen, ?_, ?_, by simp [hq, sendHead, hrest]⟩
    · simpa [hq, sendHead] using hsort
    · intro x hx
      obtain rfl | hx := List.mem_cons.1 (by simpa [hq, sendHead] using hx)
      · obtain ⟨h1, h2, h3⟩ := hall e (by simp)
        exact ⟨h1, h2, fun h => ⟨(h3 h).1, rfl⟩⟩
      · exact hall x (by simp [hx])
  reports _ _ _ := by
    rw [hq]
    by_cases hk : e.kind = .pieceReport <;> simp [reportsOf, sendHead, hk]
  abandons h := h

/-- The queue that a LINE RESET leaves (09 R187). -/
theorem clearedQueue_change (l : Link) :
    LinkChange c l { l with queue := clearedQueue l.queue, attempt := none, abandons := 0 } where
  sound := by
    rintro ⟨hlen, hsort, hall, -⟩
    refine ⟨?_, List.pairwise_map.2 (hsort.filter _), fun y hy => ?_, by simp [clearedQueue, List.filter_map, Function.comp_def]⟩
    · exact (List.length_map _).trans_le ((List.length_filter_le _ _).trans hlen)
    · obtain ⟨x, hx, rfl⟩ := List.mem_map.1 hy
      obtain ⟨hmem, hkind⟩ := List.mem_filter.1 hx
      obtain ⟨h1, -, h3⟩ := hall x hmem
      refine ⟨h1, .inl (by simp), fun h => ?_⟩
      simp [(h3 h).1] at hkind
  reports _ _ _ := by
    simp [reportsOf, clearedQueue, List.filter_map, Function.comp_def]
  abandons _ := by simp

/-- What changes neither the queue nor the attempt. -/
theorem linkFlags_change {l v : Link} (queue : v.queue = l.queue) (attempt : v.attempt = l.attempt)
    (abandons : l.abandons ≤ 3 → v.abandons ≤ 3) : LinkChange c l v where
  sound h := by rwa [linkSound, queue, attempt]
  reports _ _ _ := by rw [queue]
  abandons := abandons

/-! ### The frames that the blocks offer (11 Table 11-2) -/

@[simp] theorem length_beBytes (n v : Nat) : (beBytes n v).length = n := by
  induction n generalizing v with
  | zero => rfl
  | succ n ih => simp [beBytes, ih]

theorem fresh_newEntry {kind : Kind} {dest : Node} {payload : List Byte}
    (h : lengthFits (newEntry kind dest payload) = true) : freshEntry (newEntry kind dest payload) :=
  ⟨h, rfl, rfl, rfl⟩

theorem fresh_pieceReport (r : Record) : ∀ e ∈ pieceReport r, freshEntry e := by
  have hrating : (reportRating r.rating).length = 4 := by
    rcases r.rating with _ | (_ | _) <;> simp [reportRating]
  intro e he
  simp only [pieceReport, List.mem_cons, List.not_mem_nil, or_false] at he
  obtain rfl | rfl := he <;>
    exact fresh_newEntry (by simp [lengthFits, newEntry, reportPart1, reportPart2, hrating])

theorem fresh_refusal (kind : Kind) (reason : RefusalReason) (detail : Nat) :
    freshEntry (refusalEntry kind reason detail) := fresh_newEntry (by simp [lengthFits, newEntry])

theorem fresh_release (k : Pos) : freshEntry (releaseEntry k) := fresh_newEntry (by simp [lengthFits, newEntry])

theorem fresh_dispute (r : Record) (f : ForeignClaim) (p : RatingPart) (weight : Nat) :
    freshEntry (disputeEntry r f p weight) := fresh_newEntry (by simp [lengthFits, newEntry])

theorem fresh_claim (r : Record) (p : RatingPart) : freshEntry (claimEntry r p) :=
  ⟨by simp [lengthFits, claimEntry, newEntry], rfl, rfl, rfl⟩

theorem fresh_online (config : ConfigCopy) : freshEntry (onlineEntry config) :=
  fresh_newEntry (by simp [lengthFits, newEntry])

theorem fresh_accountReport (au : Account) : ∀ e ∈ accountReport au, freshEntry e := by
  intro e he
  simp only [accountReport, List.mem_cons, List.not_mem_nil, or_false] at he
  obtain rfl | rfl := he <;> exact fresh_newEntry (by simp [lengthFits, newEntry, accountPart1, accountPart2])

theorem fresh_statusReport (s : State) : ∀ e ∈ statusReport s, freshEntry e := by
  intro e he
  unfold statusReport at he
  split at he
  · cases he
  · rename_i mode _
    simp only [List.mem_cons, List.not_mem_nil, or_false] at he
    obtain rfl | rfl := he <;> refine fresh_newEntry ?_
    · simp [lengthFits, newEntry, statusPart1]
    · by_cases hm : mode = .offline <;> simp [lengthFits, newEntry, statusPart2, hm]

end Sys2Proof.Laws
end

section
/-! PROOFS. The Tariff Store (04): what every change that an operation makes to it keeps of the slot areas, of the status
records and of the slots. -/

namespace Sys2Proof.Laws

open Sys2Proof.Machine

/-! ### What the operations on a slot leave alone -/

@[simp] theorem setSlot_area (t : Tariff) (id j : SlotId) (v : Slot) : (t.setSlot id v).area j = t.area j := by
  cases id <;> cases j <;> rfl
@[simp] theorem setSlot_record (t : Tariff) (id j : SlotId) (v : Slot) : (t.setSlot id v).record j = t.record j := by
  cases id <;> cases j <;> rfl
@[simp] theorem setSlot_buffer (t : Tariff) (id : SlotId) (v : Slot) : (t.setSlot id v).buffer = t.buffer := by
  cases id <;> rfl
@[simp] theorem setSlot_load (t : Tariff) (id : SlotId) (v : Slot) : (t.setSlot id v).load = t.load := by
  cases id <;> rfl
@[simp] theorem setSlot_writes (t : Tariff) (id : SlotId) (v : Slot) : (t.setSlot id v).writes = t.writes := by
  cases id <;> rfl
@[simp] theorem setSlot_port (t : Tariff) (id : SlotId) (v : Slot) : (t.setSlot id v).port = t.port := by
  cases id <;> rfl
@[simp] theorem setArea_slot (t : Tariff) (id j : SlotId) (m : Memory) : (t.setArea id m).slot j = t.slot j := by
  cases id <;> cases j <;> rfl
@[simp] theorem setArea_record (t : Tariff) (id j : SlotId) (m : Memory) : (t.setArea id m).record j = t.record j := by
  cases id <;> cases j <;> rfl
@[simp] theorem setArea_buffer (t : Tariff) (id : SlotId) (m : Memory) : (t.setArea id m).buffer = t.buffer := by
  cases id <;> rfl
@[simp] theorem setArea_load (t : Tariff) (id : SlotId) (m : Memory) : (t.setArea id m).load = t.load := by
  cases id <;> rfl
@[simp] theorem setRecord_slot (t : Tariff) (id j : SlotId) (v : Option SlotRecord) :
    (t.setRecord id v).slot j = t.slot j := by cases id <;> cases j <;> rfl
@[simp] theorem setRecord_area (t : Tariff) (id j : SlotId) (v : Option SlotRecord) :
    (t.setRecord id v).area j = t.area j := by cases id <;> cases j <;> rfl
@[simp] theorem setRecord_buffer (t : Tariff) (id : SlotId) (v : Option SlotRecord) :
    (t.setRecord id v).buffer = t.buffer := by cases id <;> rfl
@[simp] theorem setRecord_load (t : Tariff) (id : SlotId) (v : Option SlotRecord) :
    (t.setRecord id v).load = t.load := by cases id <;> rfl

/-- What holds of a slot and of the other one holds of both. -/
theorem forall_slot {p : SlotId → Prop} (id : SlotId) : (∀ j, p j) ↔ p id ∧ p id.other := by
  constructor
  · exact fun h => ⟨h id, h id.other⟩
  · rintro ⟨h1, h2⟩ j
    cases id <;> cases j <;> assumption

@[simp] theorem other_other (id : SlotId) : id.other.other = id := by cases id <;> rfl
@[simp] theorem other_ne (id : SlotId) : id.other ≠ id := by cases id <;> simp [SlotId.other]
@[simp] theorem ne_other (id : SlotId) : id ≠ id.other := by cases id <;> simp [SlotId.other]

/-- A request of a status write changes the waiting writes alone. -/
theorem requestStatus_eq (id : SlotId) (t : Tariff) :
    requestStatus id t = { t with writes := (requestStatus id t).writes } := by
  unfold requestStatus
  split <;> rfl

theorem requestActiveStatus_eq (id : SlotId) (t : Tariff) :
    requestActiveStatus id t = { t with writes := (requestActiveStatus id t).writes } := by
  unfold requestActiveStatus
  split <;> rfl

/-! ### A sound tariff memory -/

/-- Canonical areas, and bounds of what goes to them: `State.memorySound`, said of the Tariff Store alone. -/
def memoryFits (t : Tariff) : Prop :=
  (∀ id, (t.area id).wf = true) ∧ (∀ e ∈ t.buffer, e.offset + e.data.length ≤ Config.areaBytes) ∧
    ∀ id, (t.slot id).state = .loading → (t.slot id).length ≤ Config.areaBytes

/-- At most one slot ACTIVE, and LOADING exactly the slot of the load in progress. -/
def slotsFit (t : Tariff) : Prop :=
  (∀ id, (t.slot id).state = .active → (t.slot id.other).state ≠ .active) ∧
    ∀ id, (t.slot id).state = .loading ↔ t.load.map (fun l => l.slot) = some id

theorem memorySound_iff (s : State) : s.memorySound = true ↔ memoryFits s.tariff := by
  have himp (a b : Prop) [Decidable a] [Decidable b] : (¬a ∨ b) ↔ (a → b) := Decidable.imp_iff_not_or.symm
  simp only [State.memorySound, memoryFits, forall_slot SlotId.a, SlotId.other, Tariff.area, Tariff.slot, Bool.and_eq_true,
    Bool.or_eq_true, bne_iff_ne, ne_eq, decide_eq_true_eq, List.all_eq_true, himp]
  tauto

theorem slotsSound_iff (s : State) :
    s.slotsSound = true ↔ slotsFit s.tariff ∧ (s.inStartUp = true → s.tariff.load = none) := by
  have hload (id : SlotId) : s.tariff.loadNames id = true ↔
      ((s.tariff.slot id).state = .loading ↔ s.tariff.load.map (fun l => l.slot) = some id) := by
    rw [Tariff.loadNames, beq_iff_eq, Bool.eq_iff_iff, beq_iff_eq, beq_iff_eq]
  have hactive : (!(s.tariff.slotA.state == .active && s.tariff.slotB.state == .active)) = true ↔
      ((s.tariff.slotA.state = .active → s.tariff.slotB.state ≠ .active) ∧
        (s.tariff.slotB.state = .active → s.tariff.slotA.state ≠ .active)) := by
    simp only [Bool.not_eq_true', Bool.and_eq_false_iff, beq_eq_false_iff_ne]
    tauto
  have hstart : (!s.inStartUp || s.tariff.load.isNone) = true ↔ (s.inStartUp = true → s.tariff.load = none) := by
    cases s.inStartUp <;> simp
  simp only [State.slotsSound, Bool.and_eq_true, hload, hactive, hstart, slotsFit, forall_slot SlotId.a, SlotId.other,
    Tariff.slot, and_assoc]

/-! ### Changes -/

/-- A change of the Tariff Store that a command makes. -/
structure TariffChange (c : Instr) (startUp : Bool) (t v : Tariff) : Prop where
  areas : (∀ w, c ≠ .eraseComplete w) → (∀ w, c ≠ .programComplete w) → v.area = t.area
  records : (∀ w, c ≠ .statusWriteComplete w) → isPowerEvent c = false → v.record = t.record
  slots : isBeltStep c = true → v.slot = t.slot
  buffer : t.buffer.length ≤ 2 → v.buffer.length ≤ 2
  memory : memoryFits t → memoryFits v
  states : slotsFit t → slotsFit v
  load : startUp = true → t.load = none → v.load = none

/-- The bytes that an entry of the write buffer brings to a slot area. -/
def placedBytes (e : BufferEntry) : Nat × List Byte := (e.offset, e.data)

/-- A change that no slot, record or area takes part in: the port, the waiting writes, the marker, the date, the progress of
the load, and the write buffer, into which no bytes come. -/
structure TariffQuiet (t v : Tariff) : Prop where
  area : v.area = t.area
  record : v.record = t.record
  slot : v.slot = t.slot
  buffer : (v.buffer.map placedBytes).Sublist (t.buffer.map placedBytes)
  load : v.load.map (fun l => l.slot) = t.load.map (fun l => l.slot)

variable {c : Instr} {startUp : Bool} {t u v : Tariff}

theorem TariffQuiet.change (h : TariffQuiet t v) : TariffChange c startUp t v where
  areas _ _ := h.area
  records _ _ := h.record
  slots _ := h.slot
  buffer hb := by simpa using h.buffer.length_le.trans (by simpa using hb)
  memory hm := by
    refine ⟨by rw [h.area]; exact hm.1, fun e he => ?_, by rw [h.slot]; exact hm.2.2⟩
    obtain ⟨e', he', hsame⟩ := List.mem_map.1 (h.buffer.subset (List.mem_map_of_mem he))
    simp only [placedBytes, Prod.mk.injEq] at hsame
    rw [← hsame.1, ← hsame.2]
    exact hm.2.1 e' he'
  states hs := by
    refine ⟨by rw [h.slot]; exact hs.1, ?_⟩
    rw [h.slot, h.load]
    exact hs.2
  load _ hl := by
    have := h.load
    rw [hl] at this
    simpa using this

theorem TariffChange.refl : TariffChange c startUp t t :=
  (⟨rfl, rfl, rfl, .refl _, rfl⟩ : TariffQuiet t t).change

theorem TariffChange.trans (h : TariffChange c startUp t u) (h' : TariffChange c startUp u v) :
    TariffChange c startUp t v where
  areas h1 h2 := (h'.areas h1 h2).trans (h.areas h1 h2)
  records h1 h2 := (h'.records h1 h2).trans (h.records h1 h2)
  slots h1 := (h'.slots h1).trans (h.slots h1)
  buffer hb := h'.buffer (h.buffer hb)
  memory hm := h'.memory (h.memory hm)
  states hs := h'.states (h.states hs)
  load h1 h2 := h'.load h1 (h.load h1 h2)

/-- Only the port, the waiting writes, the marker and the date differ. -/
theorem quiet_of_eq (hb : v.buffer = t.buffer) (hl : v.load.map (fun l => l.slot) = t.load.map (fun l => l.slot))
    (slots : v.slotA = t.slotA ∧ v.slotB = t.slotB) (records : v.recordA = t.recordA ∧ v.recordB = t.recordB)
    (areas : v.areaA = t.areaA ∧ v.areaB = t.areaB) : TariffQuiet t v where
  area := by funext id; cases id; exacts [areas.1, areas.2]
  record := by funext id; cases id; exacts [records.1, records.2]
  slot := by funext id; cases id; exacts [slots.1, slots.2]
  buffer := by rw [hb]
  load := hl

theorem requestStatus_quiet (id : SlotId) (t : Tariff) : TariffQuiet t (requestStatus id t) := by
  rw [requestStatus_eq]
  exact quiet_of_eq rfl rfl ⟨rfl, rfl⟩ ⟨rfl, rfl⟩ ⟨rfl, rfl⟩

theorem requestActiveStatus_quiet (id : SlotId) (t : Tariff) : TariffQuiet t (requestActiveStatus id t) := by
  rw [requestActiveStatus_eq]
  exact quiet_of_eq rfl rfl ⟨rfl, rfl⟩ ⟨rfl, rfl⟩ ⟨rfl, rfl⟩

/-- A program starts with the bytes of the buffer as they are. -/
theorem startProgram_placed {b b' : List BufferEntry} (h : startProgram b = some b') :
    b'.map placedBytes = b.map placedBytes := by
  induction b generalizing b' with
  | nil => cases h
  | cons e rest ih =>
    simp only [startProgram] at h
    split at h
    · obtain ⟨l, hl, rfl⟩ := Option.map_eq_some_iff.1 h
      simp [ih hl]
    · cases h
      rfl

theorem loadNext_quiet (t : Tariff) : TariffQuiet t (loadNext t) := by
  have same : TariffQuiet t t := quiet_of_eq rfl rfl ⟨rfl, rfl⟩ ⟨rfl, rfl⟩ ⟨rfl, rfl⟩
  unfold loadNext
  split
  · exact same
  · rename_i ld hld
    split
    · exact quiet_of_eq rfl (by rw [hld]; rfl) ⟨rfl, rfl⟩ ⟨rfl, rfl⟩ ⟨rfl, rfl⟩
    · exact same
    · split
      · rename_i b hb
        refine ⟨rfl, rfl, rfl, ?_, rfl⟩
        rw [startProgram_placed hb]
      · split
        · exact quiet_of_eq rfl rfl ⟨rfl, rfl⟩ ⟨rfl, rfl⟩ ⟨rfl, rfl⟩
        · exact same

theorem portTakes_quiet (walking : Bool) (t : Tariff) : TariffQuiet t (portTakes walking t) := by
  unfold portTakes
  split
  · exact quiet_of_eq rfl rfl ⟨rfl, rfl⟩ ⟨rfl, rfl⟩ ⟨rfl, rfl⟩
  · split
    · exact quiet_of_eq rfl rfl ⟨rfl, rfl⟩ ⟨rfl, rfl⟩ ⟨rfl, rfl⟩
    · split
      · exact quiet_of_eq rfl rfl ⟨rfl, rfl⟩ ⟨rfl, rfl⟩ ⟨rfl, rfl⟩
      · exact loadNext_quiet t

/-- A slot of a load that is over, or that goes on, is given a descriptor that is not LOADING for the one nor the other. -/
theorem setSlot_change (notBelt : isBeltStep c = false) {id : SlotId} {slot : Slot}
    (loading : slot.state = .loading ↔ (t.slot id).state = .loading) (length : slot.length = (t.slot id).length)
    (active : slot.state = .active → (t.slot id).state = .active ∨ (t.slot id.other).state ≠ .active) :
    TariffChange c startUp t (t.setSlot id slot) where
  areas _ _ := funext fun j => setSlot_area t id j slot
  records _ _ := funext fun j => setSlot_record t id j slot
  slots h := absurd (notBelt.symm.trans h) (by simp)
  buffer h := by simpa using h
  memory := by
    rintro ⟨h1, h2, h3⟩
    refine ⟨by simpa using h1, by simpa using h2, (forall_slot id).2 ⟨?_, ?_⟩⟩
    · rw [slot_setSlot, length]
      exact fun h => h3 id (loading.1 h)
    · simpa using h3 id.other
  states := by
    rintro ⟨h1, h2⟩
    have hother := h1 id.other
    rw [other_other] at hother
    refine ⟨(forall_slot id).2 ⟨?_, ?_⟩, (forall_slot id).2 ⟨?_, ?_⟩⟩
    · rw [slot_setSlot, slot_setSlot_other]
      exact fun h => (active h).elim (h1 id) fun h => h
    · rw [other_other, slot_setSlot, slot_setSlot_other]
      intro h hs
      exact (active hs).elim (hother h) (fun h' => h' h)
    · rw [slot_setSlot, setSlot_load, loading]
      exact h2 id
    · rw [slot_setSlot_other, setSlot_load]
      exact h2 id.other
  load _ h := by simpa using h

/-- A slot is given a descriptor that is not LOADING while its load goes: the end of its check, or its abandonment. -/
theorem endLoad_change (notBelt : isBeltStep c = false) {slot : Slot} {ld : Load} (hld : t.load = some ld)
    (idle : slot.state ≠ .loading ∧ slot.state ≠ .active) :
    TariffChange c startUp t { t.setSlot ld.slot slot with load := none } where
  areas _ _ := funext fun j => setSlot_area t ld.slot j slot
  records _ _ := funext fun j => setSlot_record t ld.slot j slot
  slots h := absurd (notBelt.symm.trans h) (by simp)
  buffer h := by simpa using h
  memory := by
    rintro ⟨h1, h2, h3⟩
    refine ⟨fun id => ?_, by simpa using h2, (forall_slot ld.slot).2 ⟨?_, ?_⟩⟩
    · exact (congrArg Memory.wf (setSlot_area t ld.slot id slot)).trans (h1 id)
    · exact fun h => absurd ((congrArg Slot.state (slot_setSlot t ld.slot slot)).symm.trans h) idle.1
    · exact fun h => (slot_setSlot_other t ld.slot slot ▸ h3 ld.slot.other) h
  states := by
    rintro ⟨h1, h2⟩
    have hself : ({ t.setSlot ld.slot slot with load := none } : Tariff).slot ld.slot = slot :=
      slot_setSlot t ld.slot slot
    have hother : ({ t.setSlot ld.slot slot with load := none } : Tariff).slot ld.slot.other = t.slot ld.slot.other :=
      slot_setSlot_other t ld.slot slot
    refine ⟨(forall_slot ld.slot).2 ⟨?_, ?_⟩, (forall_slot ld.slot).2 ⟨?_, ?_⟩⟩
    · rw [hself]
      exact fun h => absurd h idle.2
    · rw [other_other, hself]
      exact fun _ => idle.2
    · rw [hself]
      simp [idle.1]
    · rw [hother, h2 ld.slot.other, hld]
      simp
  load _ _ := rfl

/-- The evaluation of changeover makes one READY slot ACTIVE, and an ACTIVE or READY other one SUPERSEDED (04 R76). -/
theorem changeTo_change (notBelt : isBeltStep c = false) {id : SlotId} {ordinal : Nat} (h : t.chosen ordinal = some id) :
    TariffChange c startUp t (t.changeTo id ordinal) := by
  have hready : (t.slot id).state = .ready := by
    unfold Tariff.chosen at h
    unfold Slot.candidate at h
    cases id <;> simp only [Tariff.slot] <;> split at h <;> (try split at h) <;> simp_all
  have enter {t : Tariff} (hr : (t.slot id).state = .ready) (ho : (t.slot id.other).state ≠ .active) :
      TariffChange c startUp t (requestActiveStatus id (t.enter id .active)) :=
    (setSlot_change (slot := { t.slot id with state := .active }) notBelt (by simp [hr]) rfl
      (fun _ => .inr ho)).trans (requestActiveStatus_quiet id _).change
  simp only [Tariff.changeTo]
  split
  · rename_i hother
    have leave : TariffChange c startUp t (t.enter id.other .superseded) := by
      refine setSlot_change notBelt ?_ rfl (by simp)
      obtain hactive | hcandidate := (Bool.or_eq_true_iff.1 hother)
      · simp [beq_iff_eq.1 hactive]
      · simp only [Slot.candidate, Bool.and_eq_true, beq_iff_eq] at hcandidate
        simp [hcandidate.1]
    refine (leave.trans (requestStatus_quiet id.other _).change).trans (enter ?_ ?_)
    · rw [(requestStatus_quiet id.other _).slot]
      have := slot_setSlot_other t id.other { t.slot id.other with state := .superseded }
      rw [other_other] at this
      simpa [Tariff.enter, this] using hready
    · rw [(requestStatus_quiet id.other _).slot]
      simp [Tariff.enter]
  · rename_i hother
    simp only [Bool.or_eq_true, beq_iff_eq, not_or] at hother
    exact enter hready hother.1

/-! ### Loading (04 R66 to R74) -/

/-- The port's operation at an abandonment goes on for nobody (04 R74). -/
def abandonPort : Option PortOp → Option PortOp
  | some (.erase slot _) => some (.erase slot false)
  | some (.checkRead _) => some (.checkRead false)
  | p => p

/-- The abandonment of a load, with the port's operation named. -/
theorem abandonLoad_eq (opened : SlotId) {ld : Load} (hld : t.load = some ld) :
    abandonLoad opened t =
      if ld.slot = opened then
        { t with load := none, buffer := t.buffer.filter (fun e => e.started), port := abandonPort t.port }
      else
        requestStatus ld.slot
          (({ t with load := none, buffer := t.buffer.filter (fun e => e.started), port := abandonPort t.port } :
            Tariff).setSlot ld.slot Slot.blank) := by
  simp only [abandonLoad, hld]
  congr 1

/-- What an abandonment leaves: the areas and records as they were, and the other slot EMPTY if the load was its (04
R74). -/
theorem abandonLoad_facts (opened : SlotId) (t : Tariff) :
    (abandonLoad opened t).area = t.area ∧ (abandonLoad opened t).record = t.record ∧
      ((abandonLoad opened t).buffer.map placedBytes).Sublist (t.buffer.map placedBytes) ∧
      ((abandonLoad opened t).slot opened.other = Slot.blank ∨
        ((abandonLoad opened t).slot opened.other = t.slot opened.other ∧
          t.load.map (fun l => l.slot) ≠ some opened.other)) := by
  cases hld : t.load with
  | none =>
    have hsame : abandonLoad opened t = t := by simp [abandonLoad, hld]
    rw [hsame]
    exact ⟨rfl, rfl, .refl _, .inr ⟨rfl, by simp⟩⟩
  | some ld =>
    have hbuffer : ((t.buffer.filter (fun e => e.started)).map placedBytes).Sublist (t.buffer.map placedBytes) :=
      List.filter_sublist.map _
    rw [abandonLoad_eq opened hld]
    split
    · rename_i hslot
      exact ⟨rfl, rfl, hbuffer, .inr ⟨rfl, by simp [hslot]⟩⟩
    · rename_i hslot
      have hother : ld.slot = opened.other := by
        cases hl : ld.slot <;> cases ho : opened <;> simp_all [SlotId.other]
      have hquiet := requestStatus_quiet ld.slot
        (({ t with load := none, buffer := t.buffer.filter (fun e => e.started), port := abandonPort t.port } :
          Tariff).setSlot ld.slot Slot.blank)
      refine ⟨hquiet.area.trans (funext fun j => setSlot_area _ _ j _),
        hquiet.record.trans (funext fun j => setSlot_record _ _ j _),
        hquiet.buffer.trans (by rw [setSlot_buffer]; exact hbuffer), .inl ?_⟩
      rw [hquiet.slot, ← hother]
      exact slot_setSlot _ _ _

/-- A slot is opened for a load (04 R66). -/
theorem openSlot_change (notBelt : isBeltStep c = false) (started : startUp = false) (id : SlotId)
    (image ordinal : Nat) {length : Nat} (hlen : length ≤ Config.areaBytes) (t : Tariff) :
    TariffChange c startUp t (openSlot id image ordinal length t) := by
  obtain ⟨harea, hrecord, hbuffer, hother⟩ := abandonLoad_facts id t
  let slot : Slot :=
    { state := .loading, image := image, ordinal := ordinal, length := length, accepted := 0, invalid := none }
  let opened : Tariff :=
    { (abandonLoad id t).setSlot id slot with load := some { slot := id, erase := .waiting, check := none } }
  have hown : opened.slot id = slot := slot_setSlot _ _ _
  have hleft : opened.slot id.other = (abandonLoad id t).slot id.other := slot_setSlot_other _ _ _
  have hopen : TariffChange c startUp t opened :=
    { areas := fun _ _ => (funext fun j => setSlot_area (abandonLoad id t) id j slot).trans harea
      records := fun _ _ => (funext fun j => setSlot_record (abandonLoad id t) id j slot).trans hrecord
      slots := fun h => absurd (notBelt.symm.trans h) (by simp)
      buffer := fun h => by
        have := hbuffer.length_le
        rw [List.length_map, List.length_map] at this
        exact (congrArg List.length (setSlot_buffer (abandonLoad id t) id slot)).trans_le (this.trans h)
      memory := by
        rintro ⟨h1, h2, h3⟩
        refine ⟨fun j => ?_, fun e he => ?_, (forall_slot id).2 ⟨?_, ?_⟩⟩
        · exact (congrArg Memory.wf ((setSlot_area (abandonLoad id t) id j slot).trans (congrFun harea j))).trans (h1 j)
        · have he : e ∈ (abandonLoad id t).buffer := (setSlot_buffer (abandonLoad id t) id slot) ▸ he
          obtain ⟨e', he', hsame⟩ := List.mem_map.1 (hbuffer.subset (List.mem_map_of_mem he))
          simp only [placedBytes, Prod.mk.injEq] at hsame
          rw [← hsame.1, ← hsame.2]
          exact h2 e' he'
        · rw [hown]
          exact fun _ => hlen
        · rw [hleft]
          obtain h | ⟨h, -⟩ := hother <;> rw [h]
          · exact fun h => absurd h (by simp [Slot.blank])
          · exact h3 id.other
      states := by
        rintro ⟨h1, h2⟩
        refine ⟨(forall_slot id).2 ⟨?_, ?_⟩, (forall_slot id).2 ⟨?_, ?_⟩⟩
        · rw [hown]
          exact fun h => absurd h (by simp [slot])
        · rw [other_other, hown]
          exact fun _ => by simp [slot]
        · rw [hown]
          simp [slot, opened]
        · rw [hleft]
          obtain h | ⟨h, hload⟩ := hother <;> rw [h]
          · simp [Slot.blank, opened]
          · simp [h2 id.other, hload, opened]
      load := fun h => absurd (started.symm.trans h) (by simp) }
  exact hopen.trans (requestStatus_quiet id opened).change

/-! ### TARIFF DATA and TARIFF CLOSE (04 R68, R70) -/

/-- Bytes enter the write buffer of a LOADING slot, within its declared length. -/
theorem takeData_change (notBelt : isBeltStep c = false) {id : SlotId} {slot : Slot} (hslot : t.slot id = slot)
    (loading : slot.state = .loading) {data : List Byte} {offset : Nat} (fits : offset + data.length ≤ slot.length)
    (room : t.buffer.length < Config.bufferEntries) :
    TariffChange c startUp t
      { t.setSlot id { slot with accepted := slot.accepted + data.length } with
        buffer := (t.setSlot id { slot with accepted := slot.accepted + data.length }).buffer ++
          [{ slot := id, offset := offset, data := data, started := false }] } := by
  subst hslot
  have hset : TariffChange c startUp t (t.setSlot id { t.slot id with accepted := (t.slot id).accepted + data.length }) :=
    setSlot_change notBelt Iff.rfl rfl (fun h => .inl h)
  refine hset.trans ⟨fun _ _ => rfl, fun _ _ => rfl, fun _ => rfl, fun _ => ?_, ?_, fun h => h, fun _ h => h⟩
  · rw [List.length_append]
    exact Nat.succ_le_of_lt ((congrArg List.length (setSlot_buffer t id _)).trans_lt room)
  · rintro ⟨h1, h2, h3⟩
    refine ⟨h1, fun e he => ?_, h3⟩
    obtain he | he := List.mem_append.1 he
    · exact h2 e he
    · obtain rfl := List.mem_singleton.1 he
      have := h3 id
      rw [slot_setSlot] at this
      exact fits.trans (this loading)

/-- The check of a LOADING slot begins. -/
theorem takeClose_change {id : SlotId} (loading : (t.slot id).state = .loading) (started : startUp = false)
    (check : Check) :
    TariffChange c startUp t { t with load := some { slot := id, erase := .done, check := some check } } where
  areas _ _ := rfl
  records _ _ := rfl
  slots _ := rfl
  buffer h := h
  memory h := h
  states := by
    rintro ⟨h1, h2⟩
    have hload := (h2 id).1 loading
    exact ⟨h1, fun j => (h2 j).trans (by rw [hload]; rfl)⟩
  load h := absurd (started.symm.trans h) (by simp)

/-! ### Completions of the port (04 R63, R67, R69, R73) -/

theorem wrongWithin_lt {low high : Nat} {cells : List Host.Cell} :
    ∀ x ∈ wrongWithin low high cells, x.1 < Config.areaBytes := by
  intro x hx
  simp only [wrongWithin, List.mem_filter, Bool.and_eq_true, decide_eq_true_eq] at hx
  exact hx.2.2

/-- An area in canonical form takes the place of another one. -/
theorem setArea_change (writes : ∃ w, c = .eraseComplete w ∨ c = .programComplete w) {id : SlotId} {m : Memory}
    (hm : memoryFits t → m.wf = true) : TariffChange c startUp t (t.setArea id m) where
  areas h1 h2 := by
    obtain ⟨w, h | h⟩ := writes
    · exact absurd h (h1 w)
    · exact absurd h (h2 w)
  records _ _ := funext fun j => setArea_record t id j m
  slots _ := funext fun j => setArea_slot t id j m
  buffer h := by simpa using h
  memory := by
    intro h
    refine ⟨(forall_slot id).2 ⟨?_, ?_⟩, by simpa using h.2.1, by simpa using h.2.2⟩
    · rw [area_setArea]
      exact hm h
    · rw [area_setArea_other]
      exact h.1 id.other
  states h := by simpa [slotsFit] using h
  load _ h := by simpa using h

theorem finishErase_change {wrong : List Host.Cell} (erases : c = .eraseComplete wrong) (id : SlotId) (live : Bool)
    (t : Tariff) : TariffChange c startUp t (finishErase id live wrong t) := by
  have hport : TariffChange c startUp t { t with port := none } :=
    (quiet_of_eq rfl rfl ⟨rfl, rfl⟩ ⟨rfl, rfl⟩ ⟨rfl, rfl⟩ : TariffQuiet t { t with port := none }).change
  have harea := hport.trans (setArea_change (id := id)
    (m := memWriteCells [] (wrongWithin 0 Config.areaBytes wrong)) ⟨wrong, .inl erases⟩
    fun _ => memWriteCells_wf wf_nil wrongWithin_lt)
  unfold finishErase
  dsimp only
  split
  · rename_i ld hld
    split
    · refine harea.trans (TariffQuiet.change (quiet_of_eq rfl ?_ ⟨rfl, rfl⟩ ⟨rfl, rfl⟩ ⟨rfl, rfl⟩))
      rw [hld]
      rfl
    · exact harea
  · exact harea

theorem finishProgram_change {wrong : List Host.Cell} (programs : c = .programComplete wrong) (t : Tariff) :
    TariffChange c startUp t (finishProgram wrong t) := by
  have hport : TariffChange c startUp t { t with port := none } :=
    (quiet_of_eq rfl rfl ⟨rfl, rfl⟩ ⟨rfl, rfl⟩ ⟨rfl, rfl⟩ : TariffQuiet t { t with port := none }).change
  unfold finishProgram
  dsimp only
  split
  · exact hport
  · rename_i e he
    have harea := hport.trans (setArea_change (id := e.slot)
      (m := memWriteCells (memWriteRun (({ t with port := none } : Tariff).area e.slot) e.offset e.data)
        (wrongWithin e.offset (e.offset + e.data.length) wrong)) ⟨wrong, .inr programs⟩
      fun hm => memWriteCells_wf
        (memWriteRun_wf (hm.1 e.slot) (hm.2.1 e (List.mem_of_find?_eq_some he))) wrongWithin_lt)
    refine harea.trans (TariffQuiet.change ⟨rfl, rfl, rfl, ?_, rfl⟩)
    rw [setArea_buffer]
    exact List.filter_sublist.map _

theorem checkedSlot_state (slot : Slot) (carried : BitVec 32) (failed : Bool) (bytes : List Byte) :
    (checkedSlot slot carried failed bytes).state ≠ .loading ∧ (checkedSlot slot carried failed bytes).state ≠ .active := by
  unfold checkedSlot
  split_ifs <;> simp

/-- A status record is written. -/
theorem setRecord_change (writes : (∃ w, c = .statusWriteComplete w) ∨ isPowerEvent c = true) (id : SlotId)
    (r : Option SlotRecord) (t : Tariff) : TariffChange c startUp t (t.setRecord id r) where
  areas _ _ := funext fun j => setRecord_area t id j r
  records h1 h2 := by
    obtain ⟨w, h⟩ | h := writes
    · exact absurd h (h1 w)
    · exact absurd (h2.symm.trans h) (by simp)
  slots _ := funext fun j => setRecord_slot t id j r
  buffer h := by simpa using h
  memory h := by simpa [memoryFits] using h
  states h := by simpa [slotsFit] using h
  load _ h := by simpa using h

end Sys2Proof.Laws
end

section
/-! PROOFS. The lists of the Rating Engine and of the Claim Controller (05 R80, R86, 06 R123, R128): what every change
that an operation makes keeps of their sizes. -/

namespace Sys2Proof.Laws

open Sys2Proof.Machine

/-! ### Jobs and the rate line cache -/

/-- The job list and the cache within their places. -/
def raterFits (r : Rater) : Prop :=
  r.jobs.length ≤ 3 ∧ r.cache.length = 8 ∧ ∀ l ∈ r.cache, l.length ≤ 3

/-- A change of the Rating Engine that a command makes. -/
structure RaterChange (c : Instr) (r v : Rater) : Prop where
  jobs : isBeltStep c = true → v.jobs = r.jobs
  fits : raterFits r → raterFits v

variable {c : Instr}

/-- Neither the jobs nor the cache differ. -/
theorem rater_same {r v : Rater} (jobs : v.jobs = r.jobs) (cache : v.cache = r.cache) : RaterChange c r v where
  jobs _ := jobs
  fits h := by rwa [raterFits, jobs, cache]

/-- A set of the cache is replaced by one that fits. -/
theorem rater_cacheSet {r : Rater} (i : Nat) {lines : List RateLine} (h : raterFits r → lines.length ≤ 3) :
    RaterChange c r { r with cache := r.cache.set i lines } where
  jobs _ := rfl
  fits hr := by
    refine ⟨hr.1, by simpa using hr.2.1, fun l hl => ?_⟩
    obtain hl | rfl := List.mem_or_eq_of_mem_set hl
    · exact hr.2.2 l hl
    · exact h hr

/-- The lines of a set are no more than its ways. -/
theorem linesOf_length {cache : List (List RateLine)} (h : ∀ l ∈ cache, l.length ≤ 3) (cls zone : Nat) :
    (linesOf cache cls zone).length ≤ 3 := by
  rw [linesOf, List.getD_eq_getElem?_getD]
  cases hl : cache[setOf cls zone]? with
  | none => simp
  | some l => exact h l (List.mem_of_getElem? hl)

/-- A hit is on a line of its set. -/
theorem touch_change (r : Rater) {cls zone : Nat} {l : RateLine} (h : lookup r.cache cls zone = some l) :
    RaterChange c r { r with cache := touch l r.cache } := by
  have hfor : l.cls = cls ∧ l.zone = zone := by
    simpa [RateLine.isFor] using List.find?_some h
  obtain ⟨rfl, rfl⟩ := hfor
  refine rater_cacheSet _ fun hr => ?_
  have hlen : ((linesOf r.cache l.cls l.zone).filter (fun x => !x.isFor l.cls l.zone)).length <
      (linesOf r.cache l.cls l.zone).length :=
    List.length_filter_lt_length_iff_exists.2 ⟨l, List.mem_of_find?_eq_some h, by simp [RateLine.isFor]⟩
  exact Nat.succ_le_of_lt (hlen.trans_le (linesOf_length hr.2.2 _ _))

theorem fill_change (r : Rater) (l : RateLine) : RaterChange c r { r with cache := fill l r.cache } :=
  rater_cacheSet _ fun _ => Nat.succ_le_succ (List.length_take_le _ _)

theorem flushCache_change (r : Rater) : RaterChange c r (flushCache r) where
  jobs _ := rfl
  fits h := ⟨h.1, rfl, by simp [flushCache, emptyCache]⟩

theorem insertJob_perm (ref : Pos) (j : Job) (js : List Job) : (insertJob ref j js).Perm (j :: js) := by
  induction js with
  | nil => exact .refl _
  | cons x xs ih =>
    simp only [insertJob]
    split
    · exact .refl _
    · exact (ih.cons x).trans (.swap j x xs)

theorem sortJobs_perm (ref : Pos) (js : List Job) : (sortJobs ref js).Perm js := by
  induction js with
  | nil => exact .refl _
  | cons j js ih => exact (insertJob_perm ref j _).trans (ih.cons j)

/-- Jobs in effective-key order are in ascending order key (05 R80). -/
theorem sortJobs_sorted (ref : Pos) (js : List Job) :
    (sortJobs ref js).Pairwise (fun x y => orderKey ref x.key ≤ orderKey ref y.key) := by
  induction js with
  | nil => exact .nil
  | cons j js ih =>
    change (insertJob ref j (sortJobs ref js)).Pairwise _
    generalize sortJobs ref js = sorted at ih ⊢
    induction sorted with
    | nil => simp [insertJob]
    | cons x xs ihx =>
      obtain ⟨hx, hxs⟩ := List.pairwise_cons.1 ih
      simp only [insertJob]
      split
      · rename_i hj
        refine List.pairwise_cons.2 ⟨fun y hy => ?_, ih⟩
        obtain rfl | hy := List.mem_cons.1 hy
        · exact hj
        · exact hj.trans (hx y hy)
      · rename_i hj
        refine List.pairwise_cons.2 ⟨fun y hy => ?_, ihx hxs⟩
        obtain rfl | hy := List.mem_cons.1 ((insertJob_perm ref j xs).mem_iff.1 hy)
        · exact (not_le.1 hj).le
        · exact hx y hy

/-- A job is accepted while a place is free (05 R81). -/
theorem acceptJob_change (notBelt : isBeltStep c = false) (j : Job) {r : Rater} (room : r.jobs.length < 3) :
    RaterChange c r (acceptJob j r) where
  jobs h := absurd (notBelt.symm.trans h) (by simp)
  fits hr := by
    unfold acceptJob
    split
    · exact ⟨by simpa using hr.1, hr.2⟩
    · refine ⟨?_, hr.2⟩
      rw [(insertJob_perm _ j r.jobs).length_eq]
      exact room

/-- A selection discards jobs and adds none (05 R82). -/
theorem selectJob_change (notBelt : isBeltStep c = false) (k : Pos) (r : Rater) : RaterChange c r (selectJob k r) where
  jobs h := absurd (notBelt.symm.trans h) (by simp)
  fits hr := by
    unfold selectJob
    split
    · exact hr
    · rename_i j hj
      split
      · exact hr
      · refine ⟨?_, hr.2⟩
        rw [(sortJobs_perm _ _).length_eq, List.length_cons, List.length_drop]
        have hdrop := (List.dropWhile_sublist (l := r.jobs) (fun x => !(x.key == j.key))).length_le
        have hpos : r.jobs ≠ [] := by
          rintro h
          simp [jobTaken, h, candidateJobs] at hj
        have := List.length_pos_iff.2 hpos
        have := hr.1
        omega

theorem keepOneJob_change (notBelt : isBeltStep c = false) (r : Rater) : RaterChange c r (keepOneJob r) where
  jobs h := absurd (notBelt.symm.trans h) (by simp)
  fits hr := by
    unfold keepOneJob
    split
    · exact ⟨by simp, hr.2⟩
    · dsimp only
      split
      · exact ⟨by simp, hr.2⟩
      · exact hr

/-! ### The commit history ring and the peer table -/

/-- The ring within its entries, and one peer of a station number at most. -/
def claimsFit (v : Claims) : Prop := v.ring.length ≤ 16 ∧ (v.peers.map (fun p => p.station)).Nodup

theorem addToRing_fits {v : Claims} (h : claimsFit v) (e : RingEntry) :
    claimsFit { v with ring := addToRing e v.ring } := by
  refine ⟨?_, h.2⟩
  have := h.1
  unfold addToRing
  split
  · rename_i hfull
    rw [List.length_append, List.length_drop, List.length_singleton]
    simp only [Config.ringEntries] at hfull ⊢
    omega
  · rename_i hfree
    rw [List.length_append, List.length_singleton]
    exact Nat.lt_of_not_le hfree

theorem markEntry_fits {v : Claims} (h : claimsFit v) (i : Nat) : claimsFit { v with ring := markEntry i v.ring } := by
  refine ⟨?_, h.2⟩
  unfold markEntry
  split
  · simpa using h.1
  · exact h.1

theorem newPeer_fits {v : Claims} (h : claimsFit v) (u : Peer) :
    claimsFit { v with peers := u :: v.peers.filter (fun x => !(x.station == u.station)) } := by
  refine ⟨h.1, List.nodup_cons.2 ⟨?_, h.2.sublist (List.filter_sublist.map _)⟩⟩
  simp

end Sys2Proof.Laws
end

section
/-! PROOFS. The elementary changes of the part, and what keeps a property that they keep: each operation, up to the arrivals
of a forward step. -/

namespace Sys2Proof.Laws

open Sys2Proof.Machine

/-- The counters of the LPU within their ranges (01 R9, R11, R12). -/
def lpuFits (l : Lpu) : Prop :=
  (-4095 ≤ l.tally ∧ l.tally ≤ 4095) ∧ (-4095 ≤ l.speed ∧ l.speed ≤ 4095) ∧ l.reversal ≤ 4095 ∧ l.entryRun ≤ 4095 ∧
    l.exitRun ≤ 4095

/-- A change of the Line Position Unit that a command makes beside the encoder steps and the LINE RESET. -/
structure LpuChange (c : Instr) (l v : Lpu) : Prop where
  linePos : v.linePos = l.linePos
  clearance : v.clearance = l.clearance
  belt : isBeltStep c = true → v = { l with entryOwner := v.entryOwner }
  fits : lpuFits l → lpuFits v

/-- A record's claim is over: it keeps its key, its presence and its number. -/
structure ClaimEnds (phase : ClaimPhase → Prop) (r q : Record) : Prop where
  key : q.key = r.key
  presence : q.presence = r.presence
  pieceNumber : q.pieceNumber = r.pieceNumber
  claim : phase q.claim

/-- The AU once every reservation has been released (07 R140). -/
def releasedAu (s : State) : Account :=
  { s.au with
    reserved := s.au.reserved - (s.table.records.map Record.held).sum
    outstanding := s.au.outstanding - (s.table.records.filter givenUp).length }

/-- The commands that may bring a HOLD request (10 Table 10-3). -/
def mayHold (c : Instr) : Prop := isBeltStep c = true ∨ c = .attemptFailed ∨ c = .readBackFailure

/-- `P` is kept by every elementary change that the operations of command `c` make. A change of one block comes with what
its own lemmas above say of it; a change that several blocks share is made at once. -/
structure Kept (c : Instr) (P : State → Prop) : Prop where
  free : ∀ s n, P s → P (s.setFree n) := by intros; assumption
  ip : ∀ s v, P s → P (s.setIp v) := by intros; assumption
  pins : ∀ s v, P s → P (s.setPins v) := by intros; assumption
  wu : ∀ s v, (isBeltStep c = true → v.zero = s.wu.zero) → P s → P (s.setWu v) := by intros; assumption
  cc : ∀ s v, isBeltStep c = false → (claimsFit s.cc → claimsFit v) → P s → P (s.setCc v) := by intros; assumption
  inhibit : ∀ s v, isBeltStep c = false → v.blind = s.inhibit.blind → P s → P (s.setInhibit v) := by
    intros; assumption
  rater : ∀ s v, RaterChange c s.rater v → P s → P (s.setRater v) := by intros; assumption
  tariff : ∀ s v, TariffChange c s.inStartUp s.tariff v → P s → P (s.setTariff v) := by intros; assumption
  link : ∀ s v, LinkChange c s.lc v → P s → P (s.setLc v) := by intros; assumption
  lpu : ∀ s v, LpuChange c s.lpu v → P s → P (s.setLpu v) := by intros; assumption
  clearanceDropped : ∀ s q, s.lpu.clearance = some q → atOrPast s.lpu.linePos q = true → s.running = false →
    P s → P (s.setLpu { s.lpu with clearance := none }) := by intros; assumption
  horizonCleared : ∀ s q, s.lpu.clearance = some q → atOrPast s.lpu.linePos q = true → s.running = true →
    P s → P (((s.setLpu { s.lpu with clearance := none }).setTable { s.table with horizon := none }).setInhibit
      { s.inhibit with blind := false }) := by intros; assumption
  horizonHeld : ∀ s, isBeltStep c = false → s.table.horizon.isSome = true →
    P s → P (s.setInhibit { s.inhibit with blind := true }) := by intros; assumption
  horizonMoved : ∀ s k q, isBeltStep c = false →
    P s → P (((s.setInhibit { s.inhibit with blind := true }).setTable { s.table with horizon := some k }).setLpu
      { s.lpu with clearance := some q }) := by intros; assumption
  change : ∀ s f, Harmless s f →
    P s → P (s.setTable { s.table with records := s.table.records.map f }) := by intros; assumption
  remove : ∀ s k, (keysDiffer s → ∀ r ∈ s.table.records, r.key = k → mayGo s.running r) →
    P s → P (s.setTable { s.table with records := s.table.records.filter (fun r => !(r.key == k)) }) := by
    intros; assumption
  insert : ∀ s r, s.running = true → s.table.records.length < Config.tablePlaces →
    (∀ q ∈ s.table.records, within s.loader.config.window q.key r.key = false) →
    (r.claim = .opened ∨ r.claim = .foreign) → r.pieceNumber = none →
    P s → P (s.insertRecord r) := by intros; assumption
  claim : ∀ s r p, (∃ a b, c = .forwardStep a b) → r ∈ s.table.records → r.claim = .opened → r.presence = .present →
    r.beforeReset = false → r.awaits = .k → s.eligible = true → s.au.canReserve p = true →
    P s → P ((reserveFunds r.key p s).updateRecord r.key (fun r => { r with claim := .claiming })) := by
    intros; assumption
  release : ∀ s r f, ((∀ u, P u → keysDiffer u) → r ∈ s.table.records) → givenUp r = true →
    (∀ q, ClaimEnds (fun x => x = .ended ∨ x = .foreign) q (f q)) →
    P s → P ((releaseFunds r s).updateRecord r.key f) := by intros; assumption
  commit : ∀ s r f, r ∈ s.table.records → r.claim = .claimed → (∀ q, ClaimEnds (fun x => x = .debitWait) q (f q)) →
    P s → P ((s.updateRecord r.key f).setAu
      { s.au with
        reserved := s.au.reserved - r.reserved.getD 0
        committed := s.au.committed + r.reserved.getD 0
        queue := s.au.queue ++ [{ key := r.key, amount := r.reserved.getD 0 }] }) := by intros; assumption
  debitStarts : ∀ s item rest, s.au.write = none → s.au.queue = item :: rest →
    P s → P (s.setAu { s.au with queue := rest, write := some (.debit item (debitSet s.au item.amount)) }) := by
    intros; assumption
  hold : ∀ s why, mayHold c → s.running = true →
    P s → P (((s.setLoader { s.loader with mode := some .hold, reason := .hold why }).setAu (releasedAu s)).setTable
      { s.table with records := s.table.records.filterMap recordAtHold }) := by intros; assumption

/-- A record that may leave with its report: EXITED, or awaiting nothing, and its report can be composed. -/
theorem mayGo_reported {running : Bool} {r : Record} (out : r.presence = .exited ∨ r.awaits = .beyond)
    (ready : r.reportReady = true) : mayGo running r := by
  intro hplaced
  have hready : r.pieceNumber.isSome = true ∨ r.debitedHere = false := by simpa [Record.reportReady] using ready
  constructor
  · by_contra hg
    have hclaim : r.claimPlaced = true := by simp only [fundsPlaced, Bool.and_eq_true] at hplaced; exact hplaced.1.1
    obtain h | h := out <;> simp [Record.claimPlaced, hg, h] at hclaim
  · obtain h | h := hready
    · obtain ⟨n, hn⟩ := Option.isSome_iff_exists.1 h
      simp [owes, hn]
    · have hne : r.claim ≠ .debitWait := fun hc => by simp [Record.debitedHere, hc] at h
      simp [owes, hne]

section Operations

variable {c : Instr} {P : State → Prop} (h : Kept c P)
include h

theorem drawIndex_kept (n : Nat) {s : State} (hs : P s) : P (drawIndex n s).2 := drawIndex_keeps h.free n hs

/-! ### The record table -/

theorem update_kept {k : Pos} {f : Record → Record} {s : State} (hf : Harmless s (atKey k f)) (hs : P s) :
    P (s.updateRecord k f) := h.change s _ hf hs

/-- A change of what the books do not read. -/
theorem updateQuiet_kept (k : Pos) {f : Record → Record} {s : State} (hs : P s)
    (hf : ∀ r, bookFields (f r) = bookFields r := by intro; rfl) : P (s.updateRecord k f) := update_kept h (harmless_of_bookFields (atKey_bookFields hf)) hs

theorem entryOwner_kept (o : Option Pos) {s : State} (hs : P s) : P (s.setLpu { s.lpu with entryOwner := o }) :=
  h.lpu s _ ⟨rfl, rfl, fun _ => rfl, fun hf => hf⟩ hs

theorem detachWalk_kept (k : Pos) {s : State} (hs : P s) : P (detachWalk k s) := by
  obtain he | ⟨w, -, -, he⟩ := detachWalk_cases k s <;> rw [he]
  · exact hs
  · exact h.rater s _ (rater_same rfl rfl) hs

theorem removeRecord_kept {k : Pos} {s : State} (hgo : keysDiffer s → ∀ r ∈ s.table.records, r.key = k → mayGo s.running r)
    (hs : P s) : P (removeRecord k s) := by
  have hd : P ((detachWalk k s).setTable
      { s.table with records := s.table.records.filter (fun r => !(r.key == k)) }) := by
    obtain he | ⟨w, -, -, he⟩ := detachWalk_cases k s <;> rw [he]
    · exact h.remove s k hgo hs
    · exact h.remove (s.setRater _) k hgo (h.rater s _ (rater_same rfl rfl) hs)
  have htable : (detachWalk k s).table = s.table := by
    obtain he | ⟨w, -, -, he⟩ := detachWalk_cases k s <;> rw [he]
    rfl
  unfold removeRecord
  dsimp only
  rw [htable]
  split
  · exact entryOwner_kept h none hd
  · exact hd

/-! ### The transmit queue -/

theorem enqueue_kept {es : List TxEntry} {s : State} (he : ∀ e ∈ es, freshEntry e) (room : s.hasRoom es.length = true)
    (hs : P s) : P (enqueue es s) := h.link s _ (enqueue_change he (of_decide_eq_true room)) hs

theorem offer_kept {es : List TxEntry} (he : ∀ e ∈ es, freshEntry e) {s : State} (hs : P s) : P (offer es s) := by
  unfold offer
  split
  · exact enqueue_kept h he ‹_› hs
  · exact hs

theorem offerOne_kept {e : TxEntry} (he : freshEntry e) {s : State} (hs : P s) : P (offer [e] s) :=
  offer_kept h (by simpa using he) hs

theorem refuse_kept (kind : Kind) (reason : RefusalReason) (detail : Nat) {s : State} (hs : P s) :
    P (refuse kind reason detail s) := offerOne_kept h (fresh_refusal kind reason detail) hs

theorem dropClaim_kept (k : Pos) {s : State} (hs : P s) : P (dropClaim k s) := h.link s _ (dropClaim_change k s) hs

/-! ### Reports (02 R31 to R33) -/

theorem sendReport_kept {r : Record} {s : State} (room : s.hasRoom 2 = true)
    (hgo : keysDiffer s → ∀ q ∈ s.table.records, q.key = r.key → mayGo s.running q) (hs : P s) : P (sendReport r s) :=
  removeRecord_kept h hgo (enqueue_kept h (fresh_pieceReport r) room hs)

/-- Reports of EXITED records, one after another: each is in the table still, or no record of its key is. -/
theorem offerEach_kept (rs : List Record) {s : State}
    (due : ∀ x ∈ rs, x.presence = .exited ∧ x.reportReady = true ∧
      (x ∈ s.table.records ∨ ∀ q ∈ s.table.records, q.key ≠ x.key)) (hs : P s) : P (offerEach rs s) := by
  induction rs generalizing s with
  | nil => exact hs
  | cons r rest ih =>
    unfold offerEach
    split
    · have htable : (sendReport r s).table.records = s.table.records.filter (fun x => !(x.key == r.key)) := by
        simp [sendReport, removeRecord_eq, enqueue]
      refine ih (fun x hx => ?_) (sendReport_kept h ‹_› (fun keys q hq hk => ?_) hs)
      · obtain ⟨hout, hready, hin⟩ := due x (by simp [hx])
        refine ⟨hout, hready, ?_⟩
        simp only [htable, List.mem_filter, Bool.not_eq_true', beq_eq_false_iff_ne]
        by_cases hk : x.key = r.key
        · exact .inr fun q hq => hk ▸ hq.2
        · exact hin.imp (fun hm => ⟨hm, hk⟩) (fun hn q hq => hn q hq.1)
      · obtain ⟨hout, hready, hin | hnone⟩ := due r (by simp)
        · rw [List.inj_on_of_nodup_map keys hq hin hk]
          exact mayGo_reported (.inl hout) hready
        · exact absurd hk (hnone q hq)
    · exact hs

theorem offerReports_kept {s : State} (hs : P s) : P (offerReports s) := by
  refine offerEach_kept h _ (fun x hx => ?_) hs
  obtain ⟨hmem, hdue⟩ := List.mem_filter.1 hx
  simp only [Bool.and_eq_true, beq_iff_eq] at hdue
  exact ⟨hdue.1, hdue.2, .inl hmem⟩

theorem departing_kept {f : State → State} (hf : ∀ s, P s → P (f s)) {s : State} (hs : P s) : P (departing f s) := by
  unfold departing
  split
  · exact hf s hs
  · exact inEitherOrder_keeps h.free (fun s => offerReports_kept h) hf hs

/-- The exit arrival of a record that awaits nothing any more (02 R31, R32). -/
theorem exitArrival_kept {k : Pos} {s : State}
    (beyond : ∀ r, s.record k = some r → r.awaits = .beyond) (hs : P s) : P (exitArrival k s) := by
  unfold exitArrival
  split
  · exact hs
  · rename_i r hr
    have hbeyond := beyond r hr
    have hkey := (record_mem hr).2
    have hungiven : fundsPlaced s.running r = true → givenUp r = false := by
      intro hplaced
      by_contra hg
      simp [fundsPlaced, Record.claimPlaced, hg, hbeyond] at hplaced
    dsimp only
    split
    · rename_i hreport
      refine removeRecord_kept h (fun keys q hq hk => ?_) hs
      rw [record_unique hr keys hq hk]
      refine fun hplaced => ⟨hungiven hplaced, ?_⟩
      have hdebit : r.debitedHere = false := by
        simp only [needsReport, Bool.not_eq_true', Bool.or_eq_false_iff] at hreport
        exact hreport.1
      have hne : r.claim ≠ .debitWait := fun hc => by simp [Record.debitedHere, hc] at hdebit
      simp [owes, hne]
    · generalize hr' : (if r.debitedHere = true then r else { r with outcome := some .unfranked }) = r'
      have hbooks : bookFields r' = bookFields r := by
        rw [← hr']
        split <;> rfl
      have hkey' : r'.key = k := (congrArg Prod.fst hbooks).trans hkey
      have hawaits' : r'.awaits = .beyond := (congrArg (fun x => x.2.2.2.2.2.2) hbooks).trans hbeyond
      have hclaim' : r'.claim = r.claim := congrArg (fun x => x.2.2.1) hbooks
      have hone : P (s.updateRecord k (fun _ => r')) :=
        update_kept h (harmless_found hr (fun _ _ => hkey') (fun _ hc => .inr (hclaim'.symm.trans hc))
          (keepsBooks_of_bookFields hbooks)) hs
      split
      · rename_i hsend
        simp only [Bool.and_eq_true] at hsend
        refine sendReport_kept h hsend.2 (fun keys q hq hk => ?_) hone
        obtain ⟨x, hx, rfl⟩ := List.mem_map.1 hq
        by_cases hxk : x.key = k
        · rw [if_pos (by simpa using hxk)]
          exact mayGo_reported (.inr hawaits') hsend.1
        · rw [if_neg (by simpa using hxk)] at hk
          exact absurd (hk.trans hkey') hxk
      · rw [updateRecord_updateRecord _ _ _ _ (fun _ _ => hkey')]
        refine update_kept h (harmless_found hr (fun _ _ => hkey') (fun _ hc => .inr (hclaim'.symm.trans hc)) ?_) hs
        intro hplaced
        have hg := hungiven hplaced
        simp only [bookFields, Prod.mk.injEq] at hbooks
        obtain ⟨-, -, hc, hres, hnum, -, -⟩ := hbooks
        simp_all [fundsPlaced, Record.claimPlaced, Record.numberPlaced, Record.held, givenUp, owes]

/-! ### The blind horizon (02 R28, R29) -/

theorem clearHorizon_kept {s : State} {q : Pos} (hq : s.lpu.clearance = some q)
    (reached : atOrPast s.lpu.linePos q = true) (hs : P s) : P (clearHorizon s) := by
  unfold clearHorizon
  dsimp only
  split
  · exact h.horizonCleared s q hq reached ‹_› hs
  · rename_i hrun
    exact h.clearanceDropped s q hq reached (by simpa using hrun) hs

theorem offerHorizon_kept (notBelt : isBeltStep c = false) (k : Pos) {s : State} (hs : P s) : P (offerHorizon k s) := by
  have hmoved := h.horizonMoved s k (k + pos (s.loader.config.offset + s.loader.config.x + 4096)) notBelt hs
  have hset : ∀ moved : Bool, (moved = false → s.table.horizon.isSome = true) →
      P (if moved = true then
        if atOrPast s.lpu.linePos (k + pos (s.loader.config.offset + s.loader.config.x + 4096)) then
          clearHorizon (((s.setInhibit { s.inhibit with blind := true }).setTable
            { s.table with horizon := some k }).setLpu
              { s.lpu with clearance := some (k + pos (s.loader.config.offset + s.loader.config.x + 4096)) })
        else ((s.setInhibit { s.inhibit with blind := true }).setTable { s.table with horizon := some k }).setLpu
          { s.lpu with clearance := some (k + pos (s.loader.config.offset + s.loader.config.x + 4096)) }
        else s.setInhibit { s.inhibit with blind := true }) := by
    intro moved held
    split
    · split
      · exact clearHorizon_kept h rfl ‹_› hmoved
      · exact hmoved
    · rename_i hm
      exact h.horizonHeld s notBelt (held (by simpa using hm)) hs
  refine hset (match s.table.horizon with | none => true | some q => precedes q k) ?_
  cases s.table.horizon <;> simp

/-! ### The Tariff Store and the Rating Engine (04, 05) -/

theorem tariffQuiet_kept {s : State} {v : Tariff} (hv : TariffQuiet s.tariff v) (hs : P s) : P (s.setTariff v) :=
  h.tariff s v hv.change hs

theorem portNext_kept {s : State} (hs : P s) : P (portNext s) := by
  unfold portNext
  split
  · exact tariffQuiet_kept h (portTakes_quiet _ _) hs
  · exact hs

theorem evaluateChangeover_kept (notBelt : isBeltStep c = false) {s : State} (hs : P s) : P (evaluateChangeover s) := by
  unfold evaluateChangeover
  split
  · exact hs
  · split
    · exact hs
    · rename_i d _ id hid
      exact h.rater _ _ (flushCache_change _) (h.inhibit _ _ notBelt rfl (h.tariff s _ (changeTo_change notBelt hid) hs))

theorem disputeTest_kept (k : Pos) {s : State} (hs : P s) : P (disputeTest k s) := by
  unfold disputeTest
  split
  · exact hs
  · split
    · dsimp only
      have hsent := updateQuiet_kept h k (f := fun r => { r with disputeSent := true }) hs
      split
      · split
        · exact offerOne_kept h (fresh_dispute ..) hsent
        · exact hsent
      · exact hs
    · exact hs

theorem writeRating_kept (k : Pos) (res : RatingResult) {s : State} (hs : P s) : P (writeRating k res s) := by
  cases res with
  | rated p => exact disputeTest_kept h k (updateQuiet_kept h k hs)
  | fault f => exact updateQuiet_kept h k hs

theorem rateRecord_kept (r : Record) (f : Format) (image : Nat) (e : DirEntry) (steps : List Step) {s : State}
    (hs : P s) : P (rateRecord r f image e steps s) := by
  unfold rateRecord
  split <;> exact writeRating_kept h _ _ hs

theorem startWalk_kept (r : Record) (t : JobTerms) (id : SlotId) (stage : WalkStage) (f : Option Format) {s : State}
    (hs : P s) : P (startWalk r t id stage f s) :=
  tariffQuiet_kept h (quiet_of_eq rfl rfl ⟨rfl, rfl⟩ ⟨rfl, rfl⟩ ⟨rfl, rfl⟩)
    (h.rater _ _ (rater_same rfl rfl) (updateQuiet_kept h r.key hs))

theorem takeRequest_kept (r : Record) {s : State} (hs : P s) : P (takeRequest r s) := by
  have hs := updateQuiet_kept h r.key (f := fun r => { r with waiting := false }) hs
  unfold takeRequest
  dsimp only
  split
  · exact writeRating_kept h _ _ hs
  split
  · exact writeRating_kept h _ _ hs
  split
  · exact startWalk_kept h _ _ _ _ _ hs
  split
  · exact startWalk_kept h _ _ _ _ _ hs
  split
  · exact writeRating_kept h _ _ hs
  split
  · exact startWalk_kept h _ _ _ _ _ hs
  · rename_i l hl
    exact rateRecord_kept h _ _ _ _ _ (h.rater _ _ (touch_change _ hl) hs)

theorem runRater_kept (n : Nat) {s : State} (hs : P s) : P (runRater n s) := by
  induction n generalizing s with
  | zero => exact hs
  | succ n ih =>
    unfold runRater
    split
    · exact hs
    · split
      · exact hs
      · exact ih (takeRequest_kept h _ hs)

theorem takeRequests_kept {s : State} (hs : P s) : P (takeRequests s) := runRater_kept h _ hs

theorem fillAfter_kept (w : Walk) (e : WalkEnd) {s : State} (hs : P s) : P (fillAfter w e s) := by
  unfold fillAfter
  split
  · split
    · exact h.rater _ _ (fill_change _ _) hs
    · exact hs
  · exact hs
  · exact hs

theorem rateAttached_kept (w : Walk) (e : WalkEnd) {s : State} (hs : P s) : P (rateAttached w e s) := by
  unfold rateAttached
  split
  · exact hs
  · split
    · exact hs
    · split
      · exact writeRating_kept h _ _ hs
      · exact rateRecord_kept h _ _ _ _ _ hs
      · exact rateRecord_kept h _ _ _ _ _ hs
      · exact hs
      · exact hs

theorem endWalk_kept (w : Walk) (e : WalkEnd) {s : State} (hs : P s) : P (endWalk w e s) :=
  takeRequests_kept h (rateAttached_kept h w e (fillAfter_kept h w e
    (tariffQuiet_kept h (quiet_of_eq rfl rfl ⟨rfl, rfl⟩ ⟨rfl, rfl⟩ ⟨rfl, rfl⟩) (h.rater _ _ (rater_same rfl rfl) hs))))

theorem continueWalk_kept (w : Walk) {s : State} (hs : P s) : P (continueWalk w s) :=
  h.rater _ _ (rater_same rfl rfl) hs

theorem headerRead_kept (w : Walk) (error : Bool) {s : State} (hs : P s) : P (headerRead w error s) := by
  unfold headerRead
  dsimp only
  have hlimits := h.rater s { s.rater with limits := some (parseLimits (memReadRun 20 0 (s.tariff.area w.slot))) }
    (rater_same rfl rfl) hs
  split
  · exact endWalk_kept h _ _ hs
  split
  · exact endWalk_kept h _ _ hlimits
  split
  · split
    · rename_i l hl
      exact endWalk_kept h _ _ (h.rater _ _ (touch_change _ hl) hlimits)
    · exact continueWalk_kept h _ hlimits
  · exact continueWalk_kept h _ hlimits

theorem directoryRead_kept (w : Walk) (error : Bool) {s : State} (hs : P s) : P (directoryRead w error s) := by
  unfold directoryRead
  dsimp only
  split
  · exact endWalk_kept h _ _ hs
  split
  · exact endWalk_kept h _ _ hs
  · exact continueWalk_kept h _ hs

theorem stepsRead_kept (w : Walk) (error : Bool) {s : State} (hs : P s) : P (stepsRead w error s) := by
  unfold stepsRead
  split
  · exact endWalk_kept h _ _ hs
  · split
    · exact hs
    · exact endWalk_kept h _ _ hs

theorem walkReadComplete_kept {act : Walk → State → State} (hact : ∀ w s, P s → P (act w s)) (stage : WalkStage)
    {s : State} (hs : P s) : P (walkReadComplete stage act s) := by
  unfold walkReadComplete
  split
  · split
    · exact portNext_kept h (hact _ _
        (tariffQuiet_kept h (quiet_of_eq rfl rfl ⟨rfl, rfl⟩ ⟨rfl, rfl⟩ ⟨rfl, rfl⟩) hs))
    · exact hs
  · exact hs

/-- Late rating changes nothing that the books read. -/
theorem lateRating_kept (k : Pos) {s : State} (hs : P s) : P (lateRating k s) := by
  unfold lateRating
  split
  · exact hs
  · split
    · exact updateQuiet_kept h k hs
    · exact detachWalk_kept h k (updateQuiet_kept h k hs)
    all_goals exact hs

/-! ### The Weighing Unit and the Indicium Printer (03, 08) -/

theorem takeSample_kept (raw : Int) (k : Pos) {s : State} (hs : P s) : P (takeSample raw k s) :=
  updateQuiet_kept h k hs

theorem endOfWeighing_kept (k : Pos) {s : State} (hs : P s) : P (endOfWeighing k s) := by
  unfold endOfWeighing
  split
  · exact hs
  split
  · exact hs
  split
  · exact updateQuiet_kept h k hs
  · exact takeRequests_kept h (updateQuiet_kept h k hs)

/-- A record that prints, or is ready to, may go on to PRINTING or ENDED. -/
theorem printPhase_kept {k : Pos} {s : State} {r : Record} (hr : s.record k = some r)
    (hclaim : r.claim = .armed ∨ r.claim = .printing) {f : Record → Record} (key : ∀ q, (f q).key = q.key)
    (presence : ∀ q, (f q).presence = q.presence) (phase : ∀ q, (f q).claim = .printing ∨ (f q).claim = .ended)
    (hs : P s) : P (s.updateRecord k f) := by
  refine update_kept h (harmless_found hr (fun q hq => (key q).trans hq) (fun q hc => ?_) ?_) hs
  · rcases phase q with hp | hp <;> simp [hp] at hc
  · have hne : owes r = false := by rcases hclaim with hr | hr <;> simp [owes, hr]
    refine keepsBooks_ungiven (fun _ => ?_) ?_ (fun _ => ?_) (fun hp => by rwa [presence r]) (fun ho => ?_)
    · rcases hclaim with hr | hr <;> simp [givenUp, hr]
    · rcases phase r with hp | hp <;> simp [givenUp, hp]
    · rcases phase r with hp | hp <;> simp [Record.numberPlaced, hp]
    · exact absurd (hne.symm.trans ho) (by simp)

/-- The owner of an overrun is PRINTING, or nothing changes. -/
theorem overrun_kept (k : Pos) (width : Nat) {s : State} (hs : P s) : P (s.updateRecord k (overrun width)) := by
  refine update_kept h ⟨fun r => ?_, fun r hr hc => ⟨r, hr, rfl, ?_⟩, fun _ r _ => ?_⟩ hs
  · unfold atKey overrun
    split <;> (try split) <;> rfl
  · unfold atKey overrun at hc
    split at hc <;> (try split at hc) <;> simp_all
  · unfold atKey overrun
    split
    · split
      · rename_i hc
        exact keepsBooks_ungiven (by simp [givenUp, hc]) rfl (fun _ => rfl) (fun hp => hp) (by simp [owes, hc])
      · exact keepsBooks_of_bookFields rfl
    · exact keepsBooks_of_bookFields rfl

theorem startPrinting_kept (k : Pos) {s : State} (hs : P s) : P (startPrinting k s) := by
  unfold startPrinting
  split
  · exact hs
  rename_i r hr
  split
  · exact hs
  rename_i hclaim
  have hclaim : r.claim = .armed := by simpa using hclaim
  have hprint : ∀ {u : State} (q : Record), u.record k = some q → q.claim = .armed → P u →
      P (u.updateRecord k (fun r => { r with claim := .printing, print := some { next := 0, dropped := 0 } })) :=
    fun q hq hc hu => printPhase_kept h hq (.inl hc) (fun _ => rfl) (fun _ => rfl) (fun _ => .inl rfl) hu
  dsimp only
  split
  · rename_i o _
    split
    · exact h.ip _ _ (hprint r hr hclaim hs)
    · rename_i hne
      have hover : ∀ r, (overrun s.loader.config.width r).key = r.key := fun r => by unfold overrun; split <;> rfl
      refine h.ip _ _ (hprint r ?_ hclaim (overrun_kept h o.key s.loader.config.width hs))
      rw [record_updateRecord_other s _ hover (Ne.symm hne)]
      exact hr
  · exact h.ip _ _ (hprint r hr hclaim hs)

theorem arriveAtS_kept (k : Pos) {s : State} (hs : P s) : P (arriveAtS k s) := by
  refine updateQuiet_kept h k (startPrinting_kept h k hs) (fun r => ?_)
  split <;> rfl

theorem arriveAtColumn_kept (k : Pos) (i : Nat) {s : State} (hs : P s) : P (arriveAtColumn k i s) := by
  unfold arriveAtColumn
  split
  · rename_i r o hr ho
    dsimp only
    split
    · rename_i hprint
      have hpins := h.pins s { s.pins with phRdy := s.pins.phRdyAgain } hs
      have hnext : ∀ {u : State} (dropped : Nat), P u → u.record k = some r →
          P (u.updateRecord k (fun r => { r with print := some { next := i + 1, dropped := dropped } })) ∧
            P ((u.updateRecord k (fun r => { r with print := some { next := i + 1, dropped := dropped } })).updateRecord k
              (endPrint dropped)) := by
        intro u dropped hu hru
        have hone := updateQuiet_kept h k
          (f := fun r => { r with print := some { next := i + 1, dropped := dropped } }) hu
        refine ⟨hone, printPhase_kept h (r := { r with print := some { next := i + 1, dropped := dropped } }) ?_
          (.inr hprint.2) (fun _ => rfl) (fun _ => rfl) (fun _ => .inr rfl) hone⟩
        rw [record_updateRecord u k (fun r => { r with print := some { next := i + 1, dropped := dropped } }) (fun _ => rfl), hru]
        rfl
      split <;> split
      · exact h.ip _ _ (hnext _ (h.ip _ _ hpins) hr).2
      · exact (hnext _ (h.ip _ _ hpins) hr).1
      · exact h.ip _ _ (hnext _ hpins hr).2
      · exact (hnext _ hpins hr).1
    · exact hs
  · exact hs

end Operations

end Sys2Proof.Laws
end

section
/-! PROOFS. What keeps the elementary changes keeps the arrivals at D and K, the HOLD entry, and with them all that a forward
step brings about (01 R6 to R8, 02 R37, 06 R107, R113). -/

namespace Sys2Proof.Laws

open Sys2Proof.Machine

/-! ### Matching (02 R19) -/

/-- One more record either stands outside the window, or is compared with the match so far. -/
theorem matchAmong_concat (w : Nat) (k : Pos) (rs : List Record) (x : Record) :
    matchAmong w k (rs ++ [x]) =
      if within w x.key k then some ((matchAmong w k rs).elim x (fun b => nearer k b x)) else matchAmong w k rs := by
  simp only [matchAmong, List.foldl_append, List.foldl_cons, List.foldl_nil]
  split
  · split <;> simp_all
  · rfl

theorem nearer_eq (k : Pos) (a b : Record) : nearer k a b = a ∨ nearer k a b = b := by
  unfold nearer
  split_ifs <;> simp

/-- The record that a key matches is one of the records, and within the window of the key. -/
theorem matchAmong_some {w : Nat} {k : Pos} {rs : List Record} {r : Record} (h : matchAmong w k rs = some r) :
    r ∈ rs ∧ within w r.key k = true := by
  induction rs using List.reverseRecOn generalizing r with
  | nil => cases h
  | append_singleton rs x ih =>
    rw [matchAmong_concat] at h
    split at h
    · rename_i hx
      cases hb : matchAmong w k rs with
      | none =>
        obtain rfl : x = r := by simpa [hb] using h
        exact ⟨by simp, hx⟩
      | some b =>
        have hr : nearer k b x = r := by simpa [hb] using h
        obtain hn | hn := nearer_eq k b x
        · obtain ⟨hmem, hw⟩ := ih hb
          rw [← hr, hn]
          exact ⟨by simp [hmem], hw⟩
        · rw [← hr, hn]
          exact ⟨by simp, hx⟩
    · obtain ⟨hmem, hw⟩ := ih h
      exact ⟨by simp [hmem], hw⟩

/-- A key that matches none of some records is outside the window of each. -/
theorem matchAmong_none {w : Nat} {k : Pos} {rs : List Record} :
    matchAmong w k rs = none ↔ ∀ r ∈ rs, within w r.key k = false := by
  induction rs using List.reverseRecOn with
  | nil => simp [matchAmong]
  | append_singleton rs x ih =>
    rw [matchAmong_concat]
    by_cases hx : within w x.key k = true
    · simp only [hx, if_true, reduceCtorEq, false_iff]
      exact fun hall => absurd ((hall x (by simp)).symm.trans hx) (by simp)
    · simp only [hx, Bool.false_eq_true, if_false, ih]
      simp only [List.mem_append, List.mem_singleton, or_imp, forall_and, forall_eq]
      simp [hx]

/-! ### The decision at D (06 R107) -/

/-- Late rating touches nothing of a record that the books read. -/
theorem lateRating_record {k : Pos} {s : State} {q : Record} (h : (lateRating k s).record k = some q) :
    ∃ r, s.record k = some r ∧ bookFields q = bookFields r := by
  have hupdate : ∀ {f : Record → Record}, (s.updateRecord k f).record k = some q →
      (∀ r, bookFields (f r) = bookFields r) → ∃ r, s.record k = some r ∧ bookFields q = bookFields r := by
    intro f hq hf
    rw [record_updateRecord s k f (fun r => congrArg Prod.fst (hf r))] at hq
    obtain ⟨r, hr, rfl⟩ := Option.map_eq_some_iff.1 hq
    exact ⟨r, hr, hf r⟩
  unfold lateRating at h
  split at h
  · exact ⟨q, h, rfl⟩
  · split at h
    · exact hupdate h fun _ => rfl
    · rw [show (detachWalk k _).record k = (s.updateRecord k _).record k by
        obtain he | ⟨w, -, -, he⟩ := detachWalk_cases k (s.updateRecord k _) <;> rw [he]
        rfl] at h
      exact hupdate h fun _ => rfl
    all_goals exact ⟨q, h, rfl⟩

/-! ### The frames of a HOLD entry, and a clearance that is due -/

/-- What a HOLD entry does to the transmit queue: CLAIMs are withdrawn, and RELEASEs offered. -/
def holdFrames (s : State) : State :=
  inAnyOrder (fun k s => offer [releaseEntry k] s) (keysIn .claimed s).length (keysIn .claimed s)
    ((keysIn .claiming s).foldl (fun s k => dropClaim k s) s)

theorem enterHold_eq (s : State) : enterHold s = offerReports (giveUpRecords (holdFrames s)) := rfl

/-- An offer does not read the mode. -/
theorem offer_setLoader (es : List TxEntry) (s : State) (l : Loader) :
    (offer es s).setLoader l = offer es (s.setLoader l) := by
  unfold offer
  rw [show (s.setLoader l).hasRoom es.length = s.hasRoom es.length from rfl]
  split <;> rfl

/-- A clearance that is due has been reached. -/
theorem dueEvents_clearance {jam : Bool} {s : State} (due : .clearance ∈ dueEvents jam s) :
    ∃ q, s.lpu.clearance = some q ∧ atOrPast s.lpu.linePos q = true := by
  unfold dueEvents at due
  cases hq : s.lpu.clearance with
  | none => cases jam <;> simp [hq] at due
  | some q =>
    refine ⟨q, rfl, ?_⟩
    by_contra hnot
    cases jam <;> simp [hq, hnot] at due

section Operations

variable {c : Instr} {P : State → Prop} (h : Kept c P)
include h

/-- The end of a claim that holds no reservation and owes no debit. -/
theorem endClaim_kept {k : Pos} {why : PassReason} {s : State} {r : Record} (hr : s.record k = some r)
    (hclaim : r.claim = .opened ∨ r.claim = .foreign) (hs : P s) : P (endClaim k why s) := by
  refine update_kept h (harmless_found hr (fun q hq => hq) (fun q hc => by simp at hc) ?_) hs
  refine keepsBooks_ungiven (fun _ => ?_) rfl (fun _ => rfl) (fun hp => hp) (fun ho => ?_)
  · obtain hc | hc := hclaim <;> simp [givenUp, hc]
  · obtain hc | hc := hclaim <;> simp [owes, hc] at ho

theorem decideAtD_kept (forward : ∃ a b, c = .forwardStep a b) {k : Pos} {s : State}
    (found : ∀ r, s.record k = some r → r.presence = .present ∧ r.beforeReset = false ∧ r.awaits = .k) (hs : P s) :
    P (decideAtD k s) := by
  unfold decideAtD
  split
  · exact hs
  rename_i r hr
  obtain ⟨hpresent, hsince, hk⟩ := found r hr
  split
  · exact hs
  rename_i hopened
  have hopened : r.claim = .opened := by simpa using hopened
  split
  · rename_i p hp
    unfold decision at hp
    split at hp
    · cases hp
    split at hp
    · split at hp
      · cases hp
      rename_i heligible
      split at hp
      · cases hp
      rename_i hfunds
      split at hp
      · cases hp
      rename_i hroom
      obtain rfl : _ = p := by simpa using hp
      exact enqueue_kept h (es := [claimEntry r _]) (by simpa using fresh_claim r _)
        (by have hroom : s.hasRoom 1 = true := by simpa using hroom
            exact hroom)
        (h.claim s r _ forward (record_mem hr).1 hopened hpresent hsince hk (by simpa using heligible)
          (by simpa using hfunds) hs)
    · cases hp
  · exact endClaim_kept h hr (.inl hopened) hs

theorem arriveAtD_kept (forward : ∃ a b, c = .forwardStep a b) {k : Pos} {s : State}
    (found : ∀ r, s.record k = some r → r.presence = .present ∧ r.beforeReset = false ∧ r.awaits = .k) (hs : P s) :
    P (arriveAtD k s) := by
  refine decideAtD_kept h forward (fun q hq => ?_) (lateRating_kept h k hs)
  obtain ⟨r, hr, hbooks⟩ := lateRating_record hq
  obtain ⟨hpresent, hsince, hk⟩ := found r hr
  simp only [bookFields, Prod.mk.injEq] at hbooks
  obtain ⟨-, hp, -, -, -, hb, ha⟩ := hbooks
  exact ⟨hp.trans hpresent, hb.trans hsince, ha.trans hk⟩

/-! ### The commit at K (06 R113) -/

theorem startDebit_kept {s : State} (hs : P s) : P (startDebit s) := by
  obtain he | ⟨item, rest, hw, hq, he⟩ := startDebit_cases s <;> rw [he]
  · exact hs
  · exact h.debitStarts s item rest hw hq hs

theorem withdrawClaim_kept (k : Pos) {s : State} (hs : P s) : P (withdrawClaim k s) := by
  unfold withdrawClaim
  split
  · exact offerReports_kept h (dropClaim_kept h k hs)
  · exact dropClaim_kept h k hs

/-- The K arrival of a record, with the move of its target that comes with it. -/
theorem arriveAtK_kept {k : Pos} {s : State} {r : Record} {next : Record → Record} (hr : s.record k = some r)
    (hnext : ∀ q, ∃ t, next q = { q with awaits := t })
    (ungiven : givenUp r = false → P (s.updateRecord k next)) (hs : P s) :
    P (arriveAtK k (s.updateRecord k next)) := by
  have hkey : ∀ q, (next q).key = q.key := fun q => by obtain ⟨t, ht⟩ := hnext q; rw [ht]
  have hrec : (s.updateRecord k next).record k = some (next r) := by
    rw [record_updateRecord s k next hkey, hr]
    rfl
  have hrk := (record_mem hr).2
  have hclaim : (next r).claim = r.claim := by obtain ⟨t, ht⟩ := hnext r; rw [ht]
  have hreserved : (next r).reserved = r.reserved := by obtain ⟨t, ht⟩ := hnext r; rw [ht]
  have hends : ∀ (f : Record → Record) (phase : ClaimPhase → Prop), (∀ q, ClaimEnds phase q (f q)) →
      ∀ q, ClaimEnds phase q (f (next q)) := by
    intro f phase hf q
    obtain ⟨t, ht⟩ := hnext q
    have := hf (next q)
    exact ⟨this.key.trans (by rw [ht]), this.presence.trans (by rw [ht]), this.pieceNumber.trans (by rw [ht]), this.claim⟩
  unfold arriveAtK
  rw [hrec]
  dsimp only
  split
  · rename_i hc
    have hgone : (next r).claim = .claimed := hc
    have hfield := h.commit s r (fun q => { next q with claim := .debitWait }) (record_mem hr).1 (hclaim.symm.trans hgone)
      (hends (fun q => { q with claim := .debitWait }) _ fun q => ⟨rfl, rfl, rfl, rfl⟩) hs
    unfold commit
    dsimp only
    rw [hkey r, hrk, updateRecord_updateRecord _ _ _ _ (fun q hq => (hkey q).trans hq), hreserved]
    rw [hrk] at hfield
    exact startDebit_kept h hfield
  · rename_i hc
    have hfield := h.release s r (fun q => { next q with claim := .ended, pass := .lateClaim })
      (fun _ => (record_mem hr).1) (by simp [givenUp, ← hclaim, hc])
      (hends (fun q => { q with claim := .ended, pass := .lateClaim }) _ fun q => ⟨rfl, rfl, rfl, .inl rfl⟩) hs
    rw [hrk] at hfield
    refine withdrawClaim_kept h k ?_
    have hmerge : endClaim k .lateClaim (releaseFunds (next r) (s.updateRecord k next)) =
        (releaseFunds r s).updateRecord k (fun q => { next q with claim := .ended, pass := .lateClaim }) := by
      have := updateRecord_updateRecord (releaseFunds r s) k next
        (fun q => { q with claim := .ended, pass := .lateClaim }) (fun q hq => (hkey q).trans hq)
      rw [← this]
      simp only [endClaim, releaseFunds, hreserved]
      rfl
    rw [hmerge]
    exact hfield
  all_goals
    rename_i hc
    exact ungiven (by simp [givenUp, ← hclaim, hc])

/-! ### Arrivals (01 R7, Table 1-2) -/

/-- A record that holds no reservation may await its next target. -/
theorem advance_kept {k : Pos} {s : State} {r : Record} {next : Record → Record} (hr : s.record k = some r)
    (hnext : ∀ q, ∃ t, next q = { q with awaits := t }) (ungiven : fundsPlaced s.running r = true → givenUp r = false)
    (hs : P s) : P (s.updateRecord k next) := by
  refine update_kept h (harmless_found hr (fun q hq => ?_) (fun q hc => .inl ?_) ?_) hs
  · obtain ⟨t, ht⟩ := hnext q
    rw [ht]
    exact hq
  · obtain ⟨t, ht⟩ := hnext q
    rw [ht] at hc
    exact hc
  · obtain ⟨t, ht⟩ := hnext r
    rw [ht]
    intro hplaced
    exact keepsBooks_ungiven (fun hp => ungiven hp) (ungiven hplaced)
      (fun hp => by simp only [fundsPlaced, Bool.and_eq_true] at hp; exact hp.1.2) (fun hp => hp) (fun ho => ho) hplaced

theorem handArrival_kept {k : Pos} {t : Target} {s : State} (notK : t ≠ .k)
    (decides : t = .d → (∃ a b, c = .forwardStep a b) ∧
      ∀ r, s.record k = some r → r.presence = .present ∧ r.beforeReset = false ∧ r.awaits = .k)
    (exits : t = .exit → ∀ r, s.record k = some r → r.awaits = .beyond) (hs : P s) : P (handArrival k t s) := by
  cases t with
  | ps => exact hs
  | pe => exact endOfWeighing_kept h k hs
  | d => exact arriveAtD_kept h (decides rfl).1 (decides rfl).2 hs
  | k => exact absurd rfl notK
  | s => exact arriveAtS_kept h k hs
  | column i => exact arriveAtColumn_kept h k i hs
  | window => exact updateQuiet_kept h k hs
  | beyond => exact hs
  | exit =>
    refine exitArrival_kept h (fun q hq => ?_) (updateQuiet_kept h k hs)
    rw [record_updateRecord s k settleLost (fun _ => rfl)] at hq
    obtain ⟨r, hr, rfl⟩ := Option.map_eq_some_iff.1 hq
    exact exits rfl r hr

theorem reachTarget_kept {k : Pos} {s : State}
    (decides : ∀ r, s.record k = some r → r.awaits = .d → ∃ a b, c = .forwardStep a b) (hs : P s) :
    P (reachTarget k s) := by
  unfold reachTarget
  split
  · exact hs
  rename_i r hr
  dsimp only
  have hnext : ∀ q : Record, ∃ t, { q with awaits := q.awaits.after s.loader.config.width } = { q with awaits := t } :=
    fun q => ⟨_, rfl⟩
  split
  · rename_i hnoticed
    split
    · refine removeRecord_kept h (fun keys q hq hk => ?_) hs
      rw [record_unique hr keys hq hk]
      intro hplaced
      refine ⟨?_, by simp [owes, hnoticed]⟩
      by_contra hg
      simp [fundsPlaced, Record.claimPlaced, hg, hnoticed] at hplaced
    · exact updateQuiet_kept h k hs
  · rename_i hpresent
    split
    · rename_i hhanded
      simp only [Bool.and_eq_true, Bool.not_eq_true'] at hhanded
      by_cases hk : r.awaits = .k
      · rw [hk]
        exact arriveAtK_kept h hr hnext (fun hg => advance_kept h hr hnext (fun _ => hg) hs) hs
      · have hungiven : fundsPlaced s.running r = true → givenUp r = false := by
          intro hplaced
          by_contra hg
          simp [fundsPlaced, Record.claimPlaced, hg, hk] at hplaced
        have hadvanced : ∀ q, (s.updateRecord k (fun r =>
            { r with awaits := r.awaits.after s.loader.config.width })).record k = some q →
            q = { r with awaits := r.awaits.after s.loader.config.width } := by
          intro q hq
          rw [record_updateRecord s k (fun r => { r with awaits := r.awaits.after s.loader.config.width })
            (fun _ => rfl), hr] at hq
          simpa using hq.symm
        refine handArrival_kept h hk (fun hd => ⟨decides r hr hd, fun q hq => ?_⟩) (fun hx q hq => ?_)
          (advance_kept h hr hnext hungiven hs)
        · rw [hadvanced q hq]
          exact ⟨hpresent, hhanded.2, by simp [hd, Target.after]⟩
        · rw [hadvanced q hq]
          simp [hx, Target.after]
    · rename_i hhanded
      refine advance_kept h hr hnext (fun hplaced => ?_) hs
      by_contra hg
      cases hrun : s.running <;> simp_all [fundsPlaced, Record.claimPlaced]
  · rename_i hexited
    refine advance_kept h hr hnext (fun hplaced => ?_) hs
    by_contra hg
    simp [fundsPlaced, Record.claimPlaced, hg, hexited] at hplaced

/-! ### HOLD entry (02 R37, 06 R132) -/

/-- The frames of a HOLD entry may come before the change of mode. -/
theorem holdFrames_kept {s : State} (l : Loader) (hs : P s) :
    ∃ u, holdFrames (s.setLoader l) = u.setLoader l ∧ P u ∧ u.loader = s.loader := by
  have hdrops : ∀ (ks : List Pos) (u : State), u.loader = l ∧ P (u.setLoader s.loader) →
      (ks.foldl (fun s k => dropClaim k s) u).loader = l ∧
        P ((ks.foldl (fun s k => dropClaim k s) u).setLoader s.loader) := by
    intro ks
    induction ks with
    | nil => exact fun u hu => hu
    | cons k ks ih => exact fun u hu => ih _ ⟨hu.1, dropClaim_kept h k hu.2⟩
  obtain ⟨hloader, hP⟩ := inAnyOrder_keeps (P := fun u => u.loader = l ∧ P (u.setLoader s.loader))
    (f := fun k s => offer [releaseEntry k] s)
    (fun u m hu => ⟨hu.1, h.free _ m hu.2⟩)
    (fun k u hu => ⟨(offer_loader _ u).trans hu.1, by
      rw [offer_setLoader]
      exact offerOne_kept h (fresh_release k) hu.2⟩)
    (keysIn .claimed (s.setLoader l)).length (keysIn .claimed (s.setLoader l))
    (hdrops (keysIn .claiming (s.setLoader l)) (s.setLoader l) ⟨rfl, hs⟩)
  refine ⟨(holdFrames (s.setLoader l)).setLoader s.loader, ?_, hP, rfl⟩
  calc holdFrames (s.setLoader l)
      = (holdFrames (s.setLoader l)).setLoader (holdFrames (s.setLoader l)).loader := (State.setLoader_self _).symm
    _ = ((holdFrames (s.setLoader l)).setLoader s.loader).setLoader l := congrArg _ hloader

/-- The records are given up: the books, the table, the walk, the print owner and the entry owner, and nothing else. -/
theorem giveUpRecords_kept {s : State}
    (hs : P ((s.setAu (releasedAu s)).setTable { s.table with records := s.table.records.filterMap recordAtHold })) :
    P (giveUpRecords s) := by
  have hrater := h.rater _ { s.rater with walk := s.rater.walk.map (fun w => { w with record := none }) }
    (by exact rater_same rfl rfl) hs
  have hall := h.ip _ { s.ip with owner := none } hrater
  unfold giveUpRecords
  rw [releaseAll_eq]
  dsimp only
  split
  · split
    · exact hall
    · exact entryOwner_kept h none hall
  · exact hall

theorem holdRequest_kept (may : mayHold c) (why : HoldReason) {s : State} (hs : P s) : P (holdRequest why s) := by
  unfold holdRequest
  split
  · rename_i hrun
    obtain ⟨u, hu, hP, hloader⟩ := holdFrames_kept h { s.loader with mode := some .hold, reason := .hold why } hs
    rw [enterHold_eq, hu]
    have hrunning : u.running = true := by rw [State.running, hloader]; exact hrun
    have hfield := h.hold u why may hrunning hP
    rw [hloader] at hfield
    exact offerReports_kept h (giveUpRecords_kept h hfield)
  · exact hs

/-! ### What a forward step brings about (01 R6 to R8) -/

theorem doEvent_kept (forward : ∃ a b, c = .forwardStep a b) {e : StepEvent} {s : State}
    (clearance : e = .clearance → ∃ q, s.lpu.clearance = some q ∧ atOrPast s.lpu.linePos q = true) (hs : P s) :
    P (doEvent e s) := by
  cases e with
  | jam =>
    obtain ⟨a, b, rfl⟩ := forward
    exact holdRequest_kept h (.inl rfl) .jam hs
  | clearance =>
    obtain ⟨q, hq, hreached⟩ := clearance rfl
    exact clearHorizon_kept h hq hreached hs
  | target k => exact reachTarget_kept h (fun _ _ _ => forward) hs

theorem stepEvents_kept (forward : ∃ a b, c = .forwardStep a b) (n : Nat) (jam : Bool) {s : State} (hs : P s) :
    P (stepEvents n jam s) := by
  induction n generalizing jam s with
  | zero => exact hs
  | succ n ih =>
    unfold stepEvents
    split
    · exact hs
    rename_i e es hdue
    dsimp only
    refine ih _ (doEvent_kept h forward (fun hchosen => ?_) (drawIndex_kept h _ hs))
    have hin : .clearance ∈ dueEvents jam s := by
      rw [hdue, ← hchosen]
      cases hi : (e :: es)[(drawIndex (es.length + 1) s).1]? with
      | none => simp
      | some x => exact List.mem_of_getElem? hi
    obtain ⟨q, hq, hreached⟩ := dueEvents_clearance hin
    refine ⟨q, ?_⟩
    obtain he | he := drawIndex_state (es.length + 1) s <;> rw [he] <;> exact ⟨hq, hreached⟩

theorem discardGuard_kept {s : State} (hs : P s) : P (discardGuard s) := by
  unfold discardGuard
  split
  · split
    · exact h.wu _ _ (fun _ => rfl) hs
    · exact hs
  · exact hs

/-- What holds once the belt has moved holds after the forward step. -/
theorem forwardStep_kept (forward : ∃ a b, c = .forwardStep a b) (phRdy phRdyAgain : Bool) {s : State}
    (powered : s.loader.powered = true) (hs : P (reorder (s.setLpu (lpuForward s.lpu)))) :
    ∃ t, exec (.forwardStep phRdy phRdyAgain) s = .next t ∧ P t := by
  refine ⟨_, by rw [exec, execForwardStep, if_neg (by simp [powered])], ?_⟩
  have hbelt := h.ip _ { s.ip with fired := [] }
    (h.pins _ { s.pins with phRdy := phRdy, phRdyAgain := phRdyAgain } hs)
  exact portNext_kept h (stepEvents_kept h forward _ _ (discardGuard_kept h hbelt))

end Operations

end Sys2Proof.Laws
end

section
/-! PROOFS. What keeps the elementary changes keeps what the frames of other nodes bring, the sightings, and the ends of the own
attempts (02 R21 to R28, 05 R81, 06 R115 to R131, 09 R181 to R183). -/

namespace Sys2Proof.Laws

open Sys2Proof.Machine

/-- A change of one record of the table. -/
theorem harmless_member {s : State} {r : Record} {f : Record → Record} (hr : r ∈ s.table.records)
    (key : ∀ q, (f q).key = q.key) (claiming : ∀ q, (f q).claim = .claiming → q.claim = .claiming)
    (books : keepsBooks s.running r (f r)) : Harmless s (atKey r.key f) where
  key q := by
    unfold atKey
    split
    · exact key q
    · rfl
  claiming q hq hc := by
    unfold atKey at hc
    split at hc
    · exact ⟨q, hq, rfl, claiming q hc⟩
    · exact ⟨q, hq, rfl, hc⟩
  books keys q hq := by
    unfold atKey
    split
    · rename_i hk
      rw [List.inj_on_of_nodup_map keys hq hr (by simpa using hk)]
      exact books
    · exact keepsBooks_of_bookFields rfl

/-- Detaching a walk reads neither the books nor the queue, and the reports do not read the books. -/
theorem offerReports_setAu (s : State) (v : Account) : offerReports (s.setAu v) = (offerReports s).setAu v := by
  have hdetach : ∀ (k : Pos) (s : State), detachWalk k (s.setAu v) = (detachWalk k s).setAu v := by
    intro k s
    unfold detachWalk
    dsimp only [State.setAu_rater]
    split
    · split <;> rfl
    · rfl
  have hsend : ∀ (r : Record) (s : State), sendReport r (s.setAu v) = (sendReport r s).setAu v := by
    intro r s
    unfold sendReport
    rw [removeRecord_eq, removeRecord_eq, show enqueue (pieceReport r) (s.setAu v) = (enqueue (pieceReport r) s).setAu v
      from rfl, hdetach]
    rfl
  have heach : ∀ (rs : List Record) (s : State), offerEach rs (s.setAu v) = (offerEach rs s).setAu v := by
    intro rs
    induction rs with
    | nil => exact fun s => rfl
    | cons r rest ih =>
      intro s
      simp only [offerEach]
      rw [show (s.setAu v).hasRoom 2 = s.hasRoom 2 from rfl, hsend]
      split
      · exact ih _
      · rfl
  exact heach _ s

/-- A record that is not EXITED stays in a table of unequal keys while reports are offered. -/
theorem offerReports_keeps_unexited {s : State} (keys : keysDiffer s) {r : Record} (hr : r ∈ s.table.records)
    (hin : r.presence ≠ .exited) : r ∈ (offerReports s).table.records := by
  obtain ⟨sent, kept, he, ht, -, -⟩ := offerEach_spec (dueReports s) s
  rw [show (offerReports s).table.records = _ from ht, List.mem_filter]
  refine ⟨hr, List.all_eq_true.2 fun x hx => ?_⟩
  simp only [Bool.not_eq_true', beq_eq_false_iff_ne]
  intro hk
  obtain ⟨hmem, hdue⟩ := List.mem_filter.1 (show x ∈ dueReports s from he ▸ List.mem_append_left _ hx)
  rw [List.inj_on_of_nodup_map keys hr hmem hk] at hin
  simp [hin] at hdue

/-- An own frame leaves the medium or stays: the two ways a lost attempt ends for the Link Controller. -/
theorem endAttempt_eq (s : State) :
    (endAttempt s).lc =
      { s.lc with
        attempt := none, queue := s.lc.queue.map (fun x => { x with failures := x.failures, onMedium := false }) } := rfl

/-- What the delivery of its CLAIM makes of a record (06 R110). -/
def claimDelivered (r : Record) : Record := if r.claim = .claiming then { r with claim := .claimed } else r

theorem harmless_claimDelivered (k : Pos) (s : State) : Harmless s (atKey k claimDelivered) := by
  have hcases : ∀ r, (r.claim = .claiming ∧ claimDelivered r = { r with claim := .claimed }) ∨ claimDelivered r = r := by
    intro r
    unfold claimDelivered
    split
    · exact .inl ⟨‹_›, rfl⟩
    · exact .inr rfl
  refine ⟨fun r => ?_, fun r hr hc => ⟨r, hr, rfl, ?_⟩, fun _ r _ => ?_⟩ <;> unfold atKey at * <;> split at *
  · obtain ⟨-, he⟩ | he := hcases r <;> rw [he]
  · rfl
  · obtain ⟨hclaim, -⟩ | he := hcases r
    · exact hclaim
    · rwa [he] at hc
  · exact hc
  · obtain ⟨hclaim, he⟩ | he := hcases r <;> rw [he]
    · intro hplaced
      simp_all [fundsPlaced, Record.claimPlaced, Record.numberPlaced, Record.held, givenUp, owes]
      exact hplaced.2.resolve_right (by simp [hplaced.1.1.1.1])
    · exact keepsBooks_of_bookFields rfl
  · exact keepsBooks_of_bookFields rfl

section Operations

variable {c : Instr} {P : State → Prop} (h : Kept c P)
include h

/-! ### Claims and releases of other stations (06 R115 to R119) -/

theorem notice_kept (notBelt : isBeltStep c = false) {k : Pos} {f : ForeignClaim} {s : State}
    (unmatched : s.matching k = none) (hs : P s) : P (notice k f s) := by
  unfold notice
  split
  · exact hs
  rename_i hrun
  split
  · rename_i hroom
    split
    · exact hs
    · exact h.insert s _ (by simpa using hrun) hroom (matchAmong_none.1 unmatched) (.inr rfl) rfl hs
  · exact offerHorizon_kept h notBelt k hs

/-- A record without a reservation or a debit here becomes FOREIGN. -/
theorem becomeForeign_kept {r : Record} {f : ForeignClaim} {s : State} (hr : r ∈ s.table.records)
    (hclaim : r.claim = .opened ∨ r.claim = .foreign ∨ (r.claim = .ended ∧ r.debitedHere = false)) (hs : P s) :
    P (becomeForeign r.key f s) := by
  refine disputeTest_kept h _ (update_kept h (harmless_member hr (fun _ => rfl) (fun q hc => by simp at hc) ?_) hs)
  refine keepsBooks_ungiven (fun _ => ?_) rfl (fun hplaced => ?_) (fun hp => hp) (fun ho => ?_)
  · obtain hc | hc | ⟨hc, -⟩ := hclaim <;> simp [givenUp, hc]
  · simp only [fundsPlaced, Bool.and_eq_true] at hplaced
    have hnumber := hplaced.1.2
    obtain hc | hc | ⟨hc, hdebit⟩ := hclaim
    · simpa [Record.numberPlaced, hc] using hnumber
    · simpa [Record.numberPlaced, hc] using hnumber
    · simpa [Record.numberPlaced, Record.debitedHere, hc] using hdebit
  · obtain hc | hc | ⟨hc, -⟩ := hclaim <;> simp [owes, hc] at ho

/-- A reservation is released and its record becomes FOREIGN, at one moment. -/
theorem foreignRelease_kept {r : Record} {f : ForeignClaim} {s : State}
    (hr : (∀ u, P u → keysDiffer u) → r ∈ s.table.records) (hclaim : givenUp r = true) (hs : P s) :
    P (becomeForeign r.key f (releaseFunds r s)) :=
  disputeTest_kept h _ (h.release s r (fun q => { q with claim := .foreign, foreign := some f }) hr hclaim
    (fun _ => ⟨rfl, rfl, rfl, .inr rfl⟩) hs)

theorem yieldTo_kept {r : Record} {f : ForeignClaim} {s : State} (hr : r ∈ s.table.records)
    (hclaim : r.claim = .claiming ∨ r.claim = .claimed) (inside : r.presence ≠ .exited) (hs : P s) :
    P (yieldTo r f s) := by
  have hgiven : givenUp r = true := by obtain hc | hc := hclaim <;> simp [givenUp, hc]
  have hdropped := dropClaim_kept h r.key hs
  have hnow : ∀ u : State, u.table = s.table → P u → P (becomeForeign r.key f (releaseFunds r u)) := fun u hu hP =>
    foreignRelease_kept h (fun _ => by rw [hu]; exact hr) hgiven hP
  unfold yieldTo
  dsimp only
  split
  · have hdraw : ∀ u : State, u.table = s.table → P u →
        P (becomeForeign r.key f (offerReports (releaseFunds r u))) := by
      intro u hu hP
      have hcomm : offerReports (releaseFunds r u) = releaseFunds r (offerReports u) := by
        unfold releaseFunds
        rw [offerReports_setAu, show (offerReports u).au = u.au from (offerEach_frame _ u).1]
      rw [hcomm]
      refine foreignRelease_kept h (fun keys => ?_) hgiven (offerReports_kept h hP)
      exact offerReports_keeps_unexited (keys u hP) (by rw [hu]; exact hr) inside
    unfold departing
    split
    · exact hnow _ rfl hdropped
    · have hfree := drawIndex_state 2 (releaseFunds r (dropClaim r.key s))
      unfold inEitherOrder
      obtain he | he := hfree
      · split <;> rename_i hd <;> rw [hd] at he <;> simp only at he <;> subst he
        · exact hdraw _ rfl hdropped
        · exact offerReports_kept h (hnow _ rfl hdropped)
      · split <;> rename_i hd <;> rw [hd] at he <;> simp only at he <;> subst he
        · exact hdraw ((dropClaim r.key s).setFree (s.free + 1)) rfl (h.free _ _ hdropped)
        · exact offerReports_kept h (hnow ((dropClaim r.key s).setFree (s.free + 1)) rfl (h.free _ _ hdropped))
  · exact hnow _ rfl hdropped

theorem claimMatched_kept {r : Record} {f : ForeignClaim} {s : State} (hr : r ∈ s.table.records) (hs : P s) :
    P (claimMatched r f s) := by
  unfold claimMatched
  split
  · exact updateQuiet_kept h r.key hs
  rename_i hdebit
  split
  · exact hs
  rename_i hin
  split
  · rename_i hc
    exact becomeForeign_kept h hr (.inl hc) hs
  · rename_i hc
    split
    · split
      · exact hs
      · exact becomeForeign_kept h hr (.inr (.inl hc)) hs
    · exact becomeForeign_kept h hr (.inr (.inl hc)) hs
  · rename_i hc
    split
    · exact yieldTo_kept h hr (.inl hc) hin hs
    · exact hs
  · rename_i hc
    split
    · exact yieldTo_kept h hr (.inr hc) hin hs
    · exact hs
  · rename_i hc
    exact becomeForeign_kept h hr (.inr (.inr ⟨hc, by simpa using hdebit⟩)) hs
  all_goals exact hs

theorem takeClaim_kept (notBelt : isBeltStep c = false) (src : Node) (p : List Byte) {s : State} (hs : P s) :
    P (takeClaim src p s) := by
  unfold takeClaim
  split
  · exact hs
  dsimp only
  split
  · exact notice_kept h notBelt ‹_› hs
  · rename_i r hr
    exact claimMatched_kept h (matchAmong_some hr).1 hs

theorem releaseMatched_kept {r : Record} {s : State} (hr : r ∈ s.table.records) (hclaim : r.claim = .foreign)
    (hs : P s) : P (releaseMatched r s) := by
  have hungiven : givenUp r = false := by simp [givenUp, hclaim]
  have howes : owes r = false := by simp [owes, hclaim]
  unfold releaseMatched
  split
  · refine removeRecord_kept h (fun keys q hq hk => ?_) hs
    rw [List.inj_on_of_nodup_map keys hq hr hk]
    exact fun _ => ⟨hungiven, howes⟩
  · split
    · refine update_kept h (harmless_member hr (fun _ => rfl) (fun q hc => by simp at hc) ?_) hs
      exact keepsBooks_ungiven (fun _ => hungiven) rfl (fun _ => rfl) (fun hp => hp)
        (fun ho => absurd (howes.symm.trans ho) (by simp))
    · refine update_kept h (harmless_member hr (fun _ => rfl) (fun q hc => by simp at hc) ?_) hs
      refine keepsBooks_ungiven (fun _ => hungiven) rfl (fun hplaced => ?_) (fun hp => hp)
        (fun ho => absurd (howes.symm.trans ho) (by simp))
      simp only [fundsPlaced, Bool.and_eq_true] at hplaced
      simpa [Record.numberPlaced, hclaim] using hplaced.1.2
  · exact hs

theorem takeRelease_kept (src : Node) (p : List Byte) {s : State} (hs : P s) : P (takeRelease src p s) := by
  unfold takeRelease
  split
  · exact hs
  split
  · exact hs
  · rename_i r hr
    split
    · rename_i hforeign
      exact releaseMatched_kept h (matchAmong_some hr).1 hforeign.1 hs
    · exact hs

/-! ### Disputes, controls and jobs (05 R81, 06 R121 to R131) -/

theorem takeDispute_kept (notBelt : isBeltStep c = false) (src : Node) (p : List Byte) {s : State} (hs : P s) :
    P (takeDispute src p s) := by
  unfold takeDispute
  split
  · exact hs
  split
  · exact hs
  · rename_i i _
    split
    · exact hs
    · have hmarked := h.cc s { s.cc with ring := markEntry i s.cc.ring } notBelt (fun hf => markEntry_fits hf i) hs
      dsimp only
      split
      · exact h.inhibit _ _ notBelt rfl hmarked
      · exact hmarked

theorem takeClearScale_kept (notBelt : isBeltStep c = false) {s : State} (hs : P s) : P (takeClearScale s) :=
  h.wu _ _ (fun _ => rfl) (h.inhibit _ _ notBelt rfl
    (h.cc s _ notBelt (fun hf => ⟨by simpa using hf.1, hf.2⟩) hs))

theorem takePause_kept (notBelt : isBeltStep c = false) (paused : Bool) {s : State} (hs : P s) :
    P (takePause paused s) := h.inhibit _ _ notBelt rfl hs

theorem takeOnline_kept (notBelt : isBeltStep c = false) (src : Node) (p : List Byte) {s : State} (hs : P s) :
    P (takeOnline src p s) := by
  unfold takeOnline
  split
  · exact hs
  split
  · exact h.inhibit _ _ notBelt rfl hs
  · have hpeer := h.cc s _ notBelt (fun hf => newPeer_fits hf (peerOf src p)) hs
    dsimp only
    split
    · exact hpeer
    · exact h.inhibit _ _ notBelt rfl hpeer

theorem takeJob_kept (notBelt : isBeltStep c = false) (p : List Byte) {s : State} (hs : P s) : P (takeJob p s) := by
  unfold takeJob
  dsimp only
  split
  · exact refuse_kept h _ _ _ hs
  split
  · exact refuse_kept h _ _ _ hs
  split
  · exact refuse_kept h _ _ _ hs
  · rename_i hroom
    exact h.inhibit _ _ notBelt rfl (h.rater s _ (acceptJob_change notBelt _ (not_le.1 hroom)) hs)

/-! ### Dates and tariff frames (04 R66 to R76) -/

theorem takeDate_kept (notBelt : isBeltStep c = false) (p : List Byte) {s : State} (hs : P s) : P (takeDate p s) := by
  unfold takeDate
  dsimp only
  split
  · exact refuse_kept h _ _ _ hs
  · exact portNext_kept h (evaluateChangeover_kept h notBelt (h.inhibit _ _ notBelt rfl
      (tariffQuiet_kept h (quiet_of_eq rfl rfl ⟨rfl, rfl⟩ ⟨rfl, rfl⟩ ⟨rfl, rfl⟩) hs)))

theorem takeTariffOpen_kept (notBelt : isBeltStep c = false) (p : List Byte) {s : State}
    (started : s.inStartUp = false) (hs : P s) : P (takeTariffOpen p s) := by
  unfold takeTariffOpen
  dsimp only
  split
  · exact refuse_kept h _ _ _ hs
  split
  · exact refuse_kept h _ _ _ hs
  rename_i hrange
  split
  · exact refuse_kept h _ _ _ hs
  split
  · exact refuse_kept h _ _ _ hs
  split
  · exact refuse_kept h _ _ _ hs
  · refine portNext_kept h (h.tariff s _ (openSlot_change notBelt started _ _ _ ?_ s.tariff) hs)
    simp only [not_or, not_lt] at hrange
    exact hrange.2.2

theorem takeTariffData_kept (notBelt : isBeltStep c = false) (p : List Byte) {s : State} (hs : P s) :
    P (takeTariffData p s) := by
  unfold takeTariffData
  dsimp only
  split
  · exact refuse_kept h _ _ _ hs
  split
  · exact refuse_kept h _ _ _ hs
  rename_i hstate
  split
  · exact refuse_kept h _ _ _ hs
  rename_i hsequence
  split
  · exact refuse_kept h _ _ _ hs
  rename_i hrange
  split
  · exact refuse_kept h _ _ _ hs
  rename_i hroom
  simp only [not_or, not_lt, not_not] at hstate hrange hroom
  exact portNext_kept h (h.tariff s _ (takeData_change notBelt rfl hstate.1 hrange.2.2 (not_le.1 hroom)) hs)

theorem takeTariffClose_kept (p : List Byte) {s : State} (started : s.inStartUp = false) (hs : P s) :
    P (takeTariffClose p s) := by
  unfold takeTariffClose
  dsimp only
  split
  · exact refuse_kept h _ _ _ hs
  split
  · exact refuse_kept h _ _ _ hs
  rename_i hstate
  split
  · exact refuse_kept h _ _ _ hs
  split
  · exact refuse_kept h _ _ _ hs
  · simp only [not_or, not_not] at hstate
    exact portNext_kept h (h.tariff s _ (takeClose_change hstate.1 started _) hs)

/-! ### Sightings (02 R21 to R25) -/

theorem tailgateSighting_kept (notBelt : isBeltStep c = false) (k : Pos) (r : Record) {s : State} (hs : P s) :
    P (tailgateSighting k r s) := by
  unfold tailgateSighting
  dsimp only
  split
  · exact offerHorizon_kept h notBelt k (detachWalk_kept h r.key (updateQuiet_kept h r.key hs))
  · exact offerHorizon_kept h notBelt k hs

theorem consultJobs_kept (notBelt : isBeltStep c = false) (k : Pos) {s : State} (hs : P s) : P (consultJobs k s) :=
  h.rater _ _ (selectJob_change notBelt k s.rater) hs

theorem settleSighting_kept (notBelt : isBeltStep c = false) (k p : Pos) {s : State} (running : s.running = true)
    (hs : P s) : P (settleSighting k p s).2 := by
  have hjob : ∀ (taken : Option Job) (r : Record), bookFields (giveJob taken r) = bookFields r := by
    intro taken r
    cases taken <;> rfl
  unfold settleSighting
  dsimp only
  split
  · exact tailgateSighting_kept h notBelt k _ hs
  rename_i hpresent
  split
  · rename_i r hr
    obtain ⟨hmem, -⟩ := matchAmong_some hr
    obtain ⟨hmem, hnoticed⟩ := List.mem_filter.1 hmem
    have hnoticed : r.presence = .noticed := by simpa using hnoticed
    refine update_kept h (harmless_member (s := consultJobs k s) hmem (fun q => ?_) (fun q hc => ?_) ?_)
      (consultJobs_kept h notBelt k hs)
    · exact congrArg Prod.fst (hjob _ (sightedFrom p q))
    · exact (congrArg (fun x => x.2.2.1) (hjob _ (sightedFrom p q))).symm.trans hc
    · have hungiven : fundsPlaced s.running r = true → givenUp r = false := by
        intro hplaced
        by_contra hg
        simp [fundsPlaced, Record.claimPlaced, hg, hnoticed] at hplaced
      intro hplaced
      have hsighted : keepsBooks s.running r (sightedFrom p r) :=
        keepsBooks_ungiven hungiven (hungiven hplaced)
          (fun hp => by simp only [fundsPlaced, Bool.and_eq_true] at hp; exact hp.1.2)
          (fun _ => by simp [running]) (fun ho => by simp [owes, hnoticed] at ho)
      obtain ⟨h1, h2, h3, h4⟩ := hsighted hplaced
      obtain ⟨g1, g2, g3, g4⟩ := keepsBooks_of_bookFields (running := s.running) (hjob (jobTaken s.rater.jobs k) (sightedFrom p r)) h1
      exact ⟨g1, g2.trans h2, g3.trans h3, fun ho => g4 (h4 ho)⟩
  · rename_i hnoticed
    split
    · rename_i hroom
      have hfields := hjob (jobTaken s.rater.jobs k) (sightedFrom p (newRecord k))
      simp only [bookFields, Prod.mk.injEq] at hfields
      obtain ⟨hkey, -, hclaim, -, hnumber, -, -⟩ := hfields
      refine h.insert _ _ running hroom (fun q hq => ?_) (.inl hclaim) hnumber (consultJobs_kept h notBelt k hs)
      rw [hkey]
      by_cases hq' : q.presence = .noticed
      · exact matchAmong_none.1 hnoticed q (List.mem_filter.2 ⟨hq, by simpa using hq'⟩)
      · exact matchAmong_none.1 hpresent q (List.mem_filter.2 ⟨hq, by simpa using hq'⟩)
    · exact offerHorizon_kept h notBelt k hs

/-! ### Samples (03 R42, R55) -/

theorem emptySample_kept (notBelt : isBeltStep c = false) (raw : Int) {s : State} (hs : P s) : P (emptySample raw s) := by
  have hzero := h.wu s (trackZero s.loader.config raw s.wu) (fun hb => absurd (notBelt.symm.trans hb) (by simp)) hs
  unfold emptySample
  dsimp only
  split
  · exact h.inhibit _ _ notBelt rfl hzero
  · exact hzero

/-! ### The check of a load (04 R73) -/

theorem finishCheck_kept (notBelt : isBeltStep c = false) {id : SlotId} {ld : Load} (check : Check) {s : State}
    (hld : s.tariff.load = some ld) (hid : ld.slot = id) (hs : P s) : P (finishCheck id check s) := by
  have hstate := checkedSlot_state (s.tariff.slot id) check.crc check.failed
    (memReadRun (s.tariff.slot id).length 0 (s.tariff.area id))
  subst hid
  have hended := h.tariff s _ ((endLoad_change notBelt hld hstate).trans
    (requestStatus_quiet ld.slot _).change) hs
  unfold finishCheck
  dsimp only
  split
  · exact evaluateChangeover_kept h notBelt hended
  · exact hended

/-! ### The ends of the own attempts (09 R181 to R183) -/

theorem takeOff_kept {e : TxEntry} {s : State} (he : s.sending = some e)
    (departs : c = .frameDelivered ∨ e.withdrawn = true ∨ e.kind ≠ .pieceReport) (hs : P s) : P (takeOff s) :=
  h.link s _ (takeOff_change he departs) hs

theorem abandonClaim_kept (k : Pos) {s : State} (hs : P s) : P (abandonClaim k s) := by
  unfold abandonClaim
  split
  · exact hs
  rename_i r hr
  split
  · rename_i hc
    have := h.release s r (fun r => { r with claim := .ended, pass := .linkAbandoned }) (fun _ => (record_mem hr).1)
      (by simp [givenUp, hc]) (fun _ => ⟨rfl, rfl, rfl, .inl rfl⟩) hs
    rw [(record_mem hr).2] at this
    exact this
  · exact hs

theorem countAbandon_kept (may : mayHold c) {s : State} (hs : P s) : P (countAbandon s) := by
  have hcount := h.link s { s.lc with abandons := min (s.lc.abandons + 1) 3 }
    (linkFlags_change rfl rfl fun _ => min_le_right _ _) hs
  unfold countAbandon
  dsimp only
  split
  · exact holdRequest_kept h may .link hcount
  · exact hcount

theorem abandon_kept (may : mayHold c) {e : TxEntry} {s : State} (he : s.sending = some e)
    (departs : e.withdrawn = true ∨ e.kind ≠ .pieceReport) (hs : P s) : P (abandon e s) := by
  have hoff := takeOff_kept h he (.inr departs) hs
  unfold abandon
  refine departing_kept h (fun s => countAbandon_kept h may) ?_
  split
  · exact abandonClaim_kept h _ hoff
  · exact hoff

theorem endAttempt_kept {e : TxEntry} {s : State} (he : s.sending = some e) (kept : e.withdrawn = false) (hs : P s) :
    P (endAttempt s) :=
  h.link s _ (endAttempt_change (n := fun x => x.failures) he kept (fun _ _ => rfl) (.inr (.inr rfl))) hs

theorem failAttempt_kept (may : mayHold c) {e : TxEntry} {s : State} (he : s.sending = some e) (hs : P s) :
    P (failAttempt e s) := by
  unfold failAttempt
  split
  · rename_i hw
    exact offerReports_kept h (takeOff_kept h he (.inr (.inl hw)) hs)
  rename_i hkept
  dsimp only
  split
  · rename_i hlast
    exact abandon_kept h may he (.inr hlast.2) hs
  rename_i hstays
  have hcounted : P (endAttempt (s.setLc { s.lc with
      queue := s.lc.queue.map (fun x => if x.onMedium then { x with failures := min (e.failures + 1) 8 } else x) })) := by
    have hlc := h.link s _ (endAttempt_change (n := fun x => if x.onMedium then min (e.failures + 1) 8 else x.failures)
      he (by simpa using hkept) (fun x hx => by simp [hx]) ?_) hs
    · have heq : endAttempt (s.setLc { s.lc with
          queue := s.lc.queue.map (fun x => if x.onMedium then { x with failures := min (e.failures + 1) 8 } else x) }) =
          s.setLc { s.lc with
            attempt := none
            queue := s.lc.queue.map (fun x =>
              { x with failures := if x.onMedium then min (e.failures + 1) 8 else x.failures, onMedium := false }) } := by
        simp only [endAttempt, State.setLc_lc, State.setLc_setLc, List.map_map]
        congr 2
        refine List.map_congr_left fun x _ => ?_
        by_cases hx : x.onMedium = true <;> simp [hx]
      rw [heq]
      exact hlc
    · have hm : e.onMedium = true := List.find?_some (p := fun e : TxEntry => e.onMedium) he
      simp only [hm, if_true]
      by_cases hn : min (e.failures + 1) 8 = 8
      · exact .inr (.inl ⟨by simpa [hn] using hstays, hn⟩)
      · exact .inl (lt_of_le_of_ne (min_le_right _ _) hn)
  split
  · exact holdRequest_kept h may .link hcounted
  · exact hcounted

theorem deliver_kept (delivers : c = .frameDelivered) {e : TxEntry} {s : State} (he : s.sending = some e) (hs : P s) :
    P (deliver e s) := by
  have hoff := h.link _ { (takeOff s).lc with abandons := 0 } (linkFlags_change rfl rfl fun _ => Nat.zero_le _)
    (takeOff_kept h he (.inl delivers) hs)
  unfold deliver
  dsimp only
  split
  · split
    · exact departing_kept h (fun s => offerOne_kept h (fresh_release _)) hoff
    · exact offerReports_kept h (update_kept h (harmless_claimDelivered _ _) hoff)
  · exact offerReports_kept h hoff

end Operations

end Sys2Proof.Laws
end

section
/-! PROOFS. What keeps the elementary changes, and the few changes that one command makes alone, keeps every command; and
what every command keeps, a step keeps. -/

namespace Sys2Proof.Laws

open Sys2Proof.Machine

/-! ### The changes that one command makes alone -/

/-- The table that a LINE RESET finds: in RUNNING its records have been handled by Table 2-6 (10 R195). -/
def tableAtReset (s : State) : Table :=
  if s.running then { s.table with records := s.table.records.filterMap recordAtHold } else s.table

/-- What a LINE RESET changes of the books, the table, the line position, the mode and BLIND, which belong together. -/
def resetBlocks (s : State) : State :=
  ((((s.setAu (if s.running then releasedAu s else s.au)).setTable (resetTable (tableAtReset s))).setLpu
    (resetLpu s.lpu)).setInhibit { s.inhibit with layout := false, paused := false, blind := false }).setLoader
      { s.loader with mode := some .running, reason := .none }

/-- What the completion of one of the three start-up reads does (10 R189 to R191). -/
structure StartUpChange (s t : State) : Prop where
  startUp : s.inStartUp = true
  loader : ∃ l, l.powered = true ∧ l.mode = none ∧ l.reason = s.loader.reason ∧
    t.loader = if l.configDone && l.slotsDone && l.banksDone then modeAfterRead l else l
  lpu : lpuFits s.lpu → lpuFits t.lpu
  blind : t.inhibit.blind = s.inhibit.blind
  areas : t.tariff.area = s.tariff.area
  records : t.tariff.record = s.tariff.record
  buffer : t.tariff.buffer = s.tariff.buffer
  load : t.tariff.load = s.tariff.load
  slots : t.tariff.slot = s.tariff.slot ∨
    ((∀ id, (t.tariff.slot id).state ≠ .loading) ∧ ¬ ((t.tariff.slot .a).state = .active ∧ (t.tariff.slot .b).state = .active))
  books : ∃ current faulted, t.au = { s.au with current := current, faulted := faulted }
  frame : t.table = s.table ∧ t.rater = s.rater ∧ t.cc = s.cc ∧ t.ip = s.ip ∧ t.lc = s.lc ∧ t.free = s.free ∧
    t.pending = s.pending

/-- `P` is kept by every change that command `c` makes. -/
structure KeptByAll (c : Instr) (P : State → Prop) : Prop extends Kept c P where
  forward : ∀ s, (∃ a b, c = .forwardStep a b) → P s → P (reorder (s.setLpu (lpuForward s.lpu))) := by
    intros; assumption
  backward : ∀ s, c = .backwardStep → P s → P (reorder (s.setLpu (lpuBackward s.lpu))) := by intros; assumption
  reset : ∀ s, isLineReset c = true → s.inService = true → P s → P (resetBlocks s)
  powerDown : ∀ s holdUp, isPowerEvent c = true → s.loader.powered = true → P s → P (powerDown holdUp s)
  powerUp : ∀ s, c = .powerOn → P s → P (powerUp s)
  startUp : ∀ s t, isStartUpRead c = true → StartUpChange s t → P s → P t
  debitDone : ∀ s item set, c = .debitWriteComplete → s.loader.powered = true → s.au.write = some (.debit item set) →
    P s → P ((s.setAu (bookDebit item set s.au)).updateRecord item.key
      (debitedRecord (bookDebit item set s.au).registers.count)) := by intros; assumption
  creditDone : ∀ s set, c = .creditWriteComplete → s.loader.powered = true → s.au.write = some (.credit set) →
    P s → P (s.setAu (completeWrite set s.au)) := by intros; assumption
  creditStarts : ∀ s x, isBeltStep c = false → s.loader.mode ≠ none → s.au.write = none → s.au.queue = [] →
    P s → P (s.setAu { s.au with write := some (.credit (creditSet s.au x)) }) := by intros; assumption

/-! ### The start-up reads (10 R189 to R191) -/

/-- The end of the start-up read, once it is due. -/
theorem endStartUp_change {s u : State} (h : s.inStartUp = true) (powered : u.loader.powered = true)
    (mode : u.loader.mode = none) (reason : u.loader.reason = s.loader.reason) (lpu : u.lpu = s.lpu)
    (blind : u.inhibit.blind = s.inhibit.blind)
    (areas : u.tariff.area = s.tariff.area) (records : u.tariff.record = s.tariff.record)
    (buffer : u.tariff.buffer = s.tariff.buffer) (load : u.tariff.load = s.tariff.load)
    (slots : u.tariff.slot = s.tariff.slot ∨ ((∀ id, (u.tariff.slot id).state ≠ .loading) ∧
      ¬ ((u.tariff.slot .a).state = .active ∧ (u.tariff.slot .b).state = .active)))
    (books : ∃ current faulted, u.au = { s.au with current := current, faulted := faulted })
    (frame : u.table = s.table ∧ u.rater = s.rater ∧ u.cc = s.cc ∧ u.ip = s.ip ∧ u.lc = s.lc ∧ u.free = s.free ∧
      u.pending = s.pending) : StartUpChange s (endStartUp u) := by
  unfold endStartUp
  dsimp only
  split
  · rename_i hdone
    have hloader : modeAfterRead u.loader =
        if u.loader.configDone && u.loader.slotsDone && u.loader.banksDone then modeAfterRead u.loader else u.loader :=
      (if_pos hdone).symm
    have hfits : lpuFits s.lpu → lpuFits { u.lpu with
        entryBlocked := u.pins.cellEn, exitBlocked := u.pins.cellEx, entryRun := 0, exitRun := 0 } := by
      rw [lpu]
      exact fun hf => ⟨hf.1, hf.2.1, hf.2.2.1, Nat.zero_le _, Nat.zero_le _⟩
    split
    · exact ⟨h, ⟨u.loader, powered, mode, reason, hloader⟩, hfits, blind, areas, records, buffer, load, slots, books, frame⟩
    · exact ⟨h, ⟨u.loader, powered, mode, reason, hloader⟩, hfits, blind, areas, records, buffer, load, slots, books, frame⟩
  · rename_i hwaits
    exact ⟨h, ⟨u.loader, powered, mode, reason, (if_neg hwaits).symm⟩, fun hf => by rwa [lpu], blind, areas, records,
      buffer, load, slots, books, frame⟩

theorem inStartUp_iff (s : State) : s.inStartUp = true ↔ s.loader.powered = true ∧ s.loader.mode = none := by
  simp [State.inStartUp]

/-- No slot is rebuilt as LOADING, and no two as ACTIVE. -/
theorem rebuilt_states (readA readB : Bool) (a b : Option SlotRecord) :
    ((settleActive (rebuiltSlot readA a) (rebuiltSlot readB b)).1.state ≠ .loading ∧
      (settleActive (rebuiltSlot readA a) (rebuiltSlot readB b)).2.state ≠ .loading) ∧
    ¬ ((settleActive (rebuiltSlot readA a) (rebuiltSlot readB b)).1.state = .active ∧
      (settleActive (rebuiltSlot readA a) (rebuiltSlot readB b)).2.state = .active) := by
  have hnot : ∀ (read : Bool) (r : Option SlotRecord), (rebuiltSlot read r).state ≠ .loading := by
    intro read r
    cases read <;> cases r <;> try (simp [rebuiltSlot, Slot.blank]; done)
    rename_i r
    cases h : r.state <;> simp [rebuiltSlot, Slot.blank, h]
  rw [settleActive_eq]
  unfold settledBeside
  refine ⟨⟨?_, ?_⟩, ?_⟩
  · dsimp only
    split
    · simp
    · exact hnot readA a
  · dsimp only
    split
    · simp
    · exact hnot readB b
  · by_cases hA : (rebuiltSlot readA a).state = .active <;> by_cases hB : (rebuiltSlot readB b).state = .active <;>
      simp [hA, hB]

/-! ### Frames of other nodes (09 R173, R176) -/

/-- What keeps the flags of the Link Controller and an act of a block in a mode that takes the frame keeps the frame. -/
theorem receive_kept {c : Instr} {P : State → Prop} (h : Kept c P) {kind : Kind} (src dst : Node) (body : FrameBody)
    {act : State → State}
    (hact : ∀ u, u.loader.mode ≠ none → (kind ≠ .statusQuery → u.inService = true) → P u → P (act u)) {s : State}
    (hs : P s) : ∃ t, receive kind src dst body act s = .next t ∧ P t := by
  have hflags : ∀ drove, P (s.setLc { s.lc with receiver := false, drove := drove }) := fun drove =>
    h.link s _ (linkFlags_change rfl rfl fun ha => ha) hs
  unfold receive
  split
  · exact ⟨_, rfl, hs⟩
  split
  · exact ⟨_, rfl, hflags .reject⟩
  dsimp only
  split
  · exact ⟨_, rfl, hflags .accept⟩
  split
  · exact ⟨_, rfl, hflags .accept⟩
  · exact ⟨_, rfl, refuse_kept h _ _ _ (hflags .accept)⟩
  · rename_i hscreen
    refine ⟨_, rfl, hact _ (fun hmode => ?_) (fun hkind => ?_) (hflags .accept)⟩
    · rw [screen, if_pos hmode] at hscreen
      cases hscreen
    · unfold screen at hscreen
      have hmode : s.loader.mode ≠ none := fun hm => by simp [hm] at hscreen
      have hoffline : s.loader.mode ≠ some .offline := fun hm => by
        simp only [State.setLc_loader, hm, hkind, false_and, if_false] at hscreen
        split_ifs at hscreen
      simp only [State.inService, State.setLc_loader]
      cases hm : s.loader.mode with
      | none => exact absurd hm hmode
      | some m => cases m <;> simp_all

/-! ### LINE RESET (10 R195) -/

/-- The records given up at a HOLD entry, block by block: the books, the walk, the print owner, the table, and an entry owner
that is not kept (02 R37). -/
theorem giveUpRecords_eq (s : State) :
    giveUpRecords s =
      { s with
        au := releasedAu s
        rater := { s.rater with walk := s.rater.walk.map (fun w => { w with record := none }) }
        ip := { s.ip with owner := none }
        table := { s.table with records := s.table.records.filterMap recordAtHold }
        lpu :=
          { s.lpu with
            entryOwner := s.lpu.entryOwner.filter
              (fun k => (s.table.records.filterMap recordAtHold).any (fun r => r.key == k)) } } := by
  obtain ⟨loader, ⟨linePos, synced, tally, speed, reversal, entryRun, exitRun, entryBlocked, exitBlocked, owner, clearance⟩,
    table, wu, inhibit, tariff, rater, cc, au, ip, lc, pins, free, pending⟩ := s
  unfold giveUpRecords
  rw [releaseAll_eq]
  cases owner with
  | none => rfl
  | some k =>
    dsimp only [State.setAu, State.setRater, State.setIp, State.setTable, State.setLpu, Option.filter]
    by_cases hk : (table.records.filterMap recordAtHold).any (fun r => r.key == k) = true <;> simp only [hk, if_true] <;>
      rfl

/-- What a LINE RESET brings each block by its own rule, beside the transmit queue and the reports. -/
def resetRest (u : State) : State :=
  { resetBlocks u with
    wu := { u.wu with guardPos := some (pos (u.loader.config.pe + 1)) }
    cc := { u.cc with peers := [] }
    rater := resetRater
      (if u.running then { u.rater with walk := u.rater.walk.map (fun w => { w with record := none }) } else u.rater)
    ip := if u.running then { u.ip with owner := none } else u.ip }

theorem takeLineReset_eq (s : State) :
    takeLineReset s =
      if s.running || s.lc.queue.any (fun e => e.kind != .pieceReport) then offerReports (resetRest (resetLink s))
      else resetRest (resetLink s) := by
  have hrunning : (resetLink s).running = s.running := by
    rw [State.running, State.running, resetLink, offer_loader]
    rfl
  have hrest : ∀ u : State, u.running = s.running →
      ((((((((if s.running then giveUpRecords u else u).setLpu
        (resetLpu (if s.running then giveUpRecords u else u).lpu)).setTable
        (resetTable (if s.running then giveUpRecords u else u).table)).setWu
          { u.wu with guardPos := some (pos (u.loader.config.pe + 1)) }).setRater
            (resetRater (if s.running then giveUpRecords u else u).rater)).setCc { u.cc with peers := [] }).setInhibit
              { u.inhibit with layout := false, paused := false, blind := false }).setLoader
                { u.loader with mode := some .running, reason := .none }) = resetRest u := by
    intro u hu
    unfold resetRest resetBlocks tableAtReset
    rw [hu]
    cases s.running with
    | false => rfl
    | true =>
      simp only [if_true, giveUpRecords_eq]
      rfl
  rw [← hrest (resetLink s) hrunning]
  unfold takeLineReset
  dsimp only
  cases s.running with
  | false => rfl
  | true =>
    simp only [if_true, giveUpRecords_eq]
    rfl

/-! ### The unblock of the entry cell (01 R15) -/

/-- The state once the length of the piece in the entry cell has been handed to its record. -/
def lengthGiven (k : Pos) (s : State) : State :=
  ((s.setPins { s.pins with cellEn := false }).setLpu
    { s.lpu with entryBlocked := false, entryOwner := none }).updateRecord k (giveLength s.loader.config s.lpu.entryRun)

theorem execEntryUnblock_owned {k : Pos} {s : State} (started : s.started = true) (blocked : s.lpu.entryBlocked = true)
    (owner : s.lpu.entryOwner = some k) :
    execEntryUnblock s = .next
      (if ((lengthGiven k s).record k).any (fun r => r.awaits == .exit) then portNext (reachDue 1 k (lengthGiven k s))
        else lengthGiven k s) := by
  unfold execEntryUnblock
  rw [if_neg (by simp [started, blocked])]
  simp only [owner]
  change (if (match (lengthGiven k s).record k with | some r => r.awaits == .exit | none => false) = true
    then Host.Outcome.next (portNext (reachDue 1 k (lengthGiven k s))) else Host.Outcome.next (lengthGiven k s)) = _
  cases (lengthGiven k s).record k with
  | none => rfl
  | some r => by_cases hexit : r.awaits = .exit <;> simp [hexit]

section Commands

variable {c : Instr} {P : State → Prop} (h : KeptByAll c P)
include h

/-! ### Commands one by one -/

theorem takeLineReset_kept (resets : isLineReset c = true) {s : State} (service : s.inService = true) (hs : P s) :
    P (takeLineReset s) := by
  have notBelt : isBeltStep c = false := by cases c <;> first | rfl | cases resets
  have hlink : P (resetLink s) :=
    offerOne_kept h.toKept (fresh_online _) (h.link s _ (clearedQueue_change s.lc) hs)
  have hservice : (resetLink s).inService = true := by
    rw [State.inService, resetLink, offer_loader]
    exact service
  have hrest : P (resetRest (resetLink s)) := by
    generalize resetLink s = u at hlink hservice
    have hblocks := h.reset u resets hservice hlink
    let u1 := (resetBlocks u).setWu { u.wu with guardPos := some (pos (u.loader.config.pe + 1)) }
    have h1 : P u1 := h.wu (resetBlocks u) _ (fun _ => rfl) hblocks
    let u2 := u1.setCc { u.cc with peers := [] }
    have h2 : P u2 := h.cc u1 _ notBelt (fun hf => ⟨hf.1, List.nodup_nil⟩) h1
    let walks :=
      if u.running then { u.rater with walk := u.rater.walk.map (fun w => { w with record := none }) } else u.rater
    have hwalks : raterFits u.rater → raterFits walks := by
      intro hf
      unfold walks
      split <;> exact hf
    have h3 : P (u2.setRater (resetRater walks)) :=
      h.rater u2 _ ⟨fun hb => absurd (notBelt.symm.trans hb) (by simp),
        fun hf => (keepOneJob_change notBelt walks).fits (hwalks hf)⟩ h2
    exact h.ip (u2.setRater (resetRater walks)) (if u.running then { u.ip with owner := none } else u.ip) h3
  rw [takeLineReset_eq]
  split
  · exact offerReports_kept h.toKept hrest
  · exact hrest

theorem powerEvents_kept {holdUp : Bool} {s : State} (hs : P s) :
    (c = .powerOn → ∃ t, exec .powerOn s = .next t ∧ P t) ∧
      (c = .powerLoss holdUp → ∃ t, exec (.powerLoss holdUp) s = .next t ∧ P t) := by
  constructor
  · rintro rfl
    refine ⟨_, rfl, h.powerUp _ rfl ?_⟩
    split
    · exact h.powerDown s true rfl ‹_› hs
    · exact hs
  · rintro rfl
    change ∃ t, execPowerLoss holdUp s = .next t ∧ P t
    unfold execPowerLoss
    split
    · exact ⟨_, rfl, h.powerDown s holdUp rfl ‹_› hs⟩
    · exact ⟨_, rfl, hs⟩

theorem startUpReads_kept (reads : isStartUpRead c = true) {s : State} (hs : P s) : ∃ t, exec c s = .next t ∧ P t := by
  cases c <;> try cases reads
  case configurationReadComplete bytes =>
    change ∃ t, execConfigurationReadComplete bytes s = .next t ∧ P t
    unfold execConfigurationReadComplete
    split
    · rename_i hread
      simp only [Bool.and_eq_true] at hread
      obtain ⟨hpowered, hmode⟩ := (inStartUp_iff s).1 hread.1
      exact ⟨_, rfl, h.startUp s _ rfl (endStartUp_change hread.1 hpowered hmode rfl rfl rfl rfl rfl rfl rfl (.inl rfl)
        ⟨_, _, rfl⟩ ⟨rfl, rfl, rfl, rfl, rfl, rfl, rfl⟩) hs⟩
    · exact ⟨_, rfl, hs⟩
  case statusRecordRebuildComplete readA readB =>
    change ∃ t, execStatusRecordRebuildComplete readA readB s = .next t ∧ P t
    unfold execStatusRecordRebuildComplete
    split
    · rename_i hread
      simp only [Bool.and_eq_true] at hread
      obtain ⟨hpowered, hmode⟩ := (inStartUp_iff s).1 hread.1
      obtain ⟨⟨hA, hB⟩, hboth⟩ := rebuilt_states readA readB s.tariff.recordA s.tariff.recordB
      exact ⟨_, rfl, h.startUp s _ rfl (endStartUp_change hread.1 hpowered hmode rfl rfl rfl rfl rfl rfl rfl
        (.inr ⟨fun id => by cases id; exacts [hA, hB], hboth⟩) ⟨_, _, rfl⟩ ⟨rfl, rfl, rfl, rfl, rfl, rfl, rfl⟩) hs⟩
    · exact ⟨_, rfl, hs⟩
  case bankReadComplete match0 match1 =>
    change ∃ t, execBankReadComplete match0 match1 s = .next t ∧ P t
    unfold execBankReadComplete
    split
    · rename_i hread
      simp only [Bool.and_eq_true] at hread
      obtain ⟨hpowered, hmode⟩ := (inStartUp_iff s).1 hread.1
      have hbooks : ∃ current faulted, afterBankRead match0 match1 s.au =
          { s.au with current := current, faulted := faulted } := by
        unfold afterBankRead
        split <;> exact ⟨_, _, rfl⟩
      exact ⟨_, rfl, h.startUp s _ rfl (endStartUp_change hread.1 hpowered hmode rfl rfl rfl rfl rfl rfl rfl (.inl rfl)
        hbooks ⟨rfl, rfl, rfl, rfl, rfl, rfl, rfl⟩) hs⟩
    · exact ⟨_, rfl, hs⟩

theorem beltSteps_kept (belt : isBeltStep c = true) {s : State} (hs : P s) : ∃ t, exec c s = .next t ∧ P t := by
  cases c <;> try cases belt
  case forwardStep phRdy phRdyAgain =>
    by_cases hpowered : s.loader.powered = true
    · exact forwardStep_kept h.toKept ⟨_, _, rfl⟩ phRdy phRdyAgain hpowered (h.forward s ⟨_, _, rfl⟩ hs)
    · exact ⟨s, by simp [exec, execForwardStep, hpowered], hs⟩
  case backwardStep =>
    have hbelt := h.ip _ { s.ip with fired := [] } (h.backward s rfl hs)
    change ∃ t, execBackwardStep s = .next t ∧ P t
    unfold execBackwardStep
    split
    · exact ⟨_, rfl, hs⟩
    dsimp only
    split
    · exact ⟨_, rfl, holdRequest_kept h.toKept (.inl rfl) .reversed hbelt⟩
    · exact ⟨_, rfl, hbelt⟩

/-! ### Cells, speed, samples and the gauge (01 R4, R9 to R16, 03 R42, R57) -/

theorem execSighting_kept (notBelt : isBeltStep c = false) {s : State} (hs : P s) :
    ∃ t, execSighting s = .next t ∧ P t := by
  have hpins := h.pins s { s.pins with cellEn := true } hs
  have hlpu := h.lpu (State.setPins s { s.pins with cellEn := true })
    { s.lpu with entryBlocked := true, entryRun := 0, entryOwner := none }
    ⟨rfl, rfl, fun hb => absurd (notBelt.symm.trans hb) (by simp), fun hf => ⟨hf.1, hf.2.1, hf.2.2.1, Nat.zero_le _, hf.2.2.2.2⟩⟩
    hpins
  unfold execSighting
  dsimp only
  split
  · exact ⟨_, rfl, hpins⟩
  split
  · rename_i hrun
    simp only [Bool.and_eq_true] at hrun
    exact ⟨_, rfl, entryOwner_kept h.toKept _ (settleSighting_kept h.toKept notBelt _ _ hrun.1 hlpu)⟩
  · exact ⟨_, rfl, hlpu⟩

theorem execEntryUnblock_kept (notBelt : isBeltStep c = false) {s : State} (hs : P s) :
    ∃ t, execEntryUnblock s = .next t ∧ P t := by
  have hpins := h.pins s { s.pins with cellEn := false } hs
  have hlpu := h.lpu (State.setPins s { s.pins with cellEn := false })
    { s.lpu with entryBlocked := false, entryOwner := none }
    ⟨rfl, rfl, fun hb => absurd (notBelt.symm.trans hb) (by simp), fun hf => hf⟩ hpins
  by_cases hcell : s.started = true ∧ s.lpu.entryBlocked = true
  · cases howner : s.lpu.entryOwner with
    | some k =>
      have hlength : P (lengthGiven k s) := updateQuiet_kept h.toKept k hlpu
      refine ⟨_, execEntryUnblock_owned hcell.1 hcell.2 howner, ?_⟩
      split
      · rename_i hexit
        refine portNext_kept h.toKept ?_
        unfold reachDue
        split
        · split
          · refine reachTarget_kept h.toKept (fun q hq hd => ?_) hlength
            simp [hq, hd] at hexit
          · exact hlength
        · exact hlength
      · exact hlength
    | none =>
      unfold execEntryUnblock
      simp only [hcell.1, hcell.2, howner, Bool.not_true, Bool.or_false, Bool.false_eq_true, if_false]
      split
      · exact ⟨_, rfl, h.wu _ _ (fun _ => rfl) hlpu⟩
      · exact ⟨_, rfl, hlpu⟩
  · refine ⟨_, ?_, hpins⟩
    unfold execEntryUnblock
    rw [if_pos]
    by_cases hstarted : s.started = true <;> simp_all

theorem execExitCell_kept (notBelt : isBeltStep c = false) {s : State} (hs : P s) :
    (∃ t, execExitCellBlock s = .next t ∧ P t) ∧ ∃ t, execExitCellUnblock s = .next t ∧ P t := by
  have hlpu : ∀ (v : Lpu) (pins : Pins), v.linePos = s.lpu.linePos → v.clearance = s.lpu.clearance →
      (lpuFits s.lpu → lpuFits v) → P ((s.setPins pins).setLpu v) := fun v pins hpos hclear hfits =>
    h.lpu (s.setPins pins) v ⟨hpos, hclear, fun hb => absurd (notBelt.symm.trans hb) (by simp), hfits⟩ (h.pins s pins hs)
  constructor
  · unfold execExitCellBlock
    dsimp only
    split
    · exact ⟨_, rfl, h.pins _ _ hs⟩
    · refine ⟨_, rfl, h.change (State.setLpu _ _) _ (harmless_of_bookFields fun r => ?_)
        (hlpu { s.lpu with exitBlocked := true, exitRun := 0 } { s.pins with cellEx := true } rfl rfl
          fun hf => ⟨hf.1, hf.2.1, hf.2.2.1, hf.2.2.2.1, Nat.zero_le _⟩)⟩
      split <;> rfl
  · unfold execExitCellUnblock
    dsimp only
    split
    · exact ⟨_, rfl, h.pins _ _ hs⟩
    · exact ⟨_, rfl, hlpu { s.lpu with exitBlocked := false } { s.pins with cellEx := false } rfl rfl fun hf => hf⟩

theorem execSpeedPeriodExpiry_kept (notBelt : isBeltStep c = false) {s : State} (hs : P s) :
    ∃ t, execSpeedPeriodExpiry s = .next t ∧ P t := by
  have hlpu := h.lpu s { s.lpu with speed := s.lpu.tally, tally := 0 }
    ⟨rfl, rfl, fun hb => absurd (notBelt.symm.trans hb) (by simp),
      fun hf => ⟨⟨by simp, by simp⟩, hf.1, hf.2.2.1, hf.2.2.2.1, hf.2.2.2.2⟩⟩ hs
  unfold execSpeedPeriodExpiry
  split
  · exact ⟨_, rfl, hs⟩
  dsimp only
  split
  · exact ⟨_, rfl, h.inhibit _ _ notBelt rfl hlpu⟩
  · exact ⟨_, rfl, hlpu⟩

theorem execSampleArrival_kept (notBelt : isBeltStep c = false) (raw : BitVec 24) {s : State} (hs : P s) :
    ∃ t, execSampleArrival raw s = .next t ∧ P t := by
  obtain ⟨t, ht⟩ : ∃ t, execSampleArrival raw s = .next t := by
    unfold execSampleArrival
    split
    · exact ⟨_, rfl⟩
    split
    · exact ⟨_, rfl⟩
    split
    · exact ⟨_, rfl⟩
    split <;> exact ⟨_, rfl⟩
  refine ⟨t, ht, ?_⟩
  obtain rfl | rfl | ⟨r, -, rfl⟩ | ⟨-, rfl⟩ | ⟨r, -, rfl⟩ := sampleArrival_cases ht
  · exact hs
  · exact h.free _ _ hs
  · exact takeSample_kept h.toKept _ _ hs
  · exact emptySample_kept h.toKept notBelt _ hs
  · exact takeSample_kept h.toKept _ _ (h.free _ _ hs)

theorem execGaugeArrival_kept (reading : BitVec 10) {s : State} (hs : P s) :
    ∃ t, execGaugeArrival reading s = .next t ∧ P t := by
  unfold execGaugeArrival
  split
  · exact ⟨_, rfl, updateQuiet_kept h.toKept _ hs⟩
  · exact ⟨_, rfl, hs⟩

/-! ### Completions of the tariff memory port (04 R62 to R73) -/

theorem execStatusWriteComplete_kept {wrong : Bool} (writes : c = .statusWriteComplete wrong) {s : State} (hs : P s) :
    ∃ t, execStatusWriteComplete wrong s = .next t ∧ P t := by
  unfold execStatusWriteComplete
  split
  · rename_i id record again _ _
    have hrecord := (quiet_of_eq rfl rfl ⟨rfl, rfl⟩ ⟨rfl, rfl⟩ ⟨rfl, rfl⟩ :
      TariffQuiet s.tariff { s.tariff with port := none }).change.trans
        (setRecord_change (startUp := s.inStartUp) (.inl ⟨wrong, writes⟩) id (if wrong then none else some record) _)
    refine ⟨_, rfl, portNext_kept h.toKept (h.tariff s _ ?_ hs)⟩
    split
    · exact hrecord.trans (requestStatus_quiet id _).change
    · exact hrecord
  · exact ⟨_, rfl, hs⟩

theorem execEraseComplete_kept {wrong : List Host.Cell} (erases : c = .eraseComplete wrong) {s : State} (hs : P s) :
    ∃ t, execEraseComplete wrong s = .next t ∧ P t := by
  unfold execEraseComplete
  split
  · exact ⟨_, rfl, portNext_kept h.toKept (h.tariff s _ (finishErase_change erases _ _ s.tariff) hs)⟩
  · exact ⟨_, rfl, hs⟩

theorem execProgramComplete_kept {wrong : List Host.Cell} (programs : c = .programComplete wrong) {s : State}
    (hs : P s) : ∃ t, execProgramComplete wrong s = .next t ∧ P t := by
  unfold execProgramComplete
  split
  · exact ⟨_, rfl, portNext_kept h.toKept (h.tariff s _ (finishProgram_change programs s.tariff) hs)⟩
  · exact ⟨_, rfl, hs⟩

theorem execCheckReadComplete_kept (notBelt : isBeltStep c = false) (count : Nat) (error : Bool) {s : State}
    (hs : P s) : ∃ t, execCheckReadComplete count error s = .next t ∧ P t := by
  unfold execCheckReadComplete
  split
  · rename_i live _ _
    have hfree := tariffQuiet_kept h.toKept (quiet_of_eq rfl rfl ⟨rfl, rfl⟩ ⟨rfl, rfl⟩ ⟨rfl, rfl⟩ :
      TariffQuiet s.tariff { s.tariff with port := none }) hs
    dsimp only
    split
    · rename_i ld hld _
      split
      · split
        · exact ⟨_, rfl, portNext_kept h.toKept (finishCheck_kept h.toKept notBelt _ hld rfl hfree)⟩
        · refine ⟨_, rfl, portNext_kept h.toKept (tariffQuiet_kept h.toKept
            (quiet_of_eq rfl ?_ ⟨rfl, rfl⟩ ⟨rfl, rfl⟩ ⟨rfl, rfl⟩) hfree)⟩
          rw [hld]
          rfl
      · exact ⟨_, rfl, portNext_kept h.toKept hfree⟩
    · exact ⟨_, rfl, portNext_kept h.toKept hfree⟩
  · exact ⟨_, rfl, hs⟩

/-! ### Nonvolatile writes and CREDIT (07 R143 to R146) -/

theorem raiseExhausted_kept (notBelt : isBeltStep c = false) {s : State} (hs : P s) : P (raiseExhausted s) := by
  unfold raiseExhausted
  split
  · exact h.inhibit _ _ notBelt rfl hs
  · exact hs

theorem offerReportOf_kept (k : Pos) {s : State} (hs : P s) : P (offerReportOf k s) := by
  unfold offerReportOf
  split
  · rename_i r hr
    split
    · rename_i hdue
      refine sendReport_kept h.toKept hdue.2.2 (fun keys q hq hk => ?_) hs
      rw [record_unique hr keys hq (hk.trans (record_mem hr).2)]
      exact mayGo_reported (.inl hdue.1) hdue.2.1
    · exact hs
  · exact hs

theorem execDebitWriteComplete_kept (completes : c = .debitWriteComplete) {s : State} (hs : P s) :
    ∃ t, execDebitWriteComplete s = .next t ∧ P t := by
  have notBelt : isBeltStep c = false := by rw [completes]; rfl
  unfold execDebitWriteComplete
  split
  · rename_i item set hpowered hwrite
    have hdone := h.debitDone s item set completes hpowered hwrite hs
    refine ⟨_, rfl, startDebit_kept h.toKept (offerReportOf_kept h _ (raiseExhausted_kept h notBelt ?_))⟩
    unfold settleDebit
    split
    · rename_i hnone
      rw [updateRecord_none hnone] at hdone
      exact hdone
    · exact h.cc _ _ notBelt (fun hf => addToRing_fits hf _) hdone
  · exact ⟨_, rfl, hs⟩

theorem execCreditWriteComplete_kept (completes : c = .creditWriteComplete) {s : State} (hs : P s) :
    ∃ t, execCreditWriteComplete s = .next t ∧ P t := by
  unfold execCreditWriteComplete
  split
  · rename_i set hpowered hwrite
    exact ⟨_, rfl, startDebit_kept h.toKept (offer_kept h.toKept (fresh_accountReport _)
      (h.creditDone s set completes hpowered hwrite hs))⟩
  · exact ⟨_, rfl, hs⟩

theorem takeCredit_kept (notBelt : isBeltStep c = false) (p : List Byte) {s : State} (mode : s.loader.mode ≠ none)
    (hs : P s) : P (takeCredit p s) := by
  unfold takeCredit
  dsimp only
  split
  · exact refuse_kept h.toKept _ _ _ hs
  split
  · exact refuse_kept h.toKept _ _ _ hs
  rename_i hidle
  split
  · exact refuse_kept h.toKept _ _ _ hs
  split
  · exact refuse_kept h.toKept _ _ _ hs
  · simp only [not_or, Option.not_isSome_iff_eq_none, Bool.not_eq_true', Bool.not_eq_false, List.isEmpty_iff] at hidle
    exact h.creditStarts s _ notBelt mode hidle.1 hidle.2 hs

/-! ### The own attempts (09 R172, R180 to R183) -/

theorem execAttemptStart_kept {s : State} (hs : P s) : ∃ t, execAttemptStart s = .next t ∧ P t := by
  unfold execAttemptStart
  split
  · exact ⟨_, rfl, hs⟩
  rename_i hidle
  split
  · exact ⟨_, rfl, hs⟩
  · rename_i e rest hq
    refine ⟨_, rfl, h.link s _ (attemptStart_change ?_ hq _) hs⟩
    simp only [Bool.or_eq_true, not_or, Option.not_isSome_iff_eq_none] at hidle
    exact hidle.2

theorem execLostArbitration_kept {s : State} (hs : P s) : ∃ t, execLostArbitration s = .next t ∧ P t := by
  unfold execLostArbitration
  split
  · rename_i e _ he
    have hreceiver := h.link s { s.lc with receiver := true } (linkFlags_change rfl rfl fun ha => ha) hs
    dsimp only
    split
    · rename_i hw
      exact ⟨_, rfl, offerReports_kept h.toKept (takeOff_kept h.toKept (s := s.setLc _) he (.inr (.inl hw)) hreceiver)⟩
    · rename_i hkept
      exact ⟨_, rfl, endAttempt_kept h.toKept (s := s.setLc _) he (by simpa using hkept) hreceiver⟩
  · exact ⟨_, rfl, hs⟩

theorem execReadBackFailure_kept (may : mayHold c) {s : State} (hs : P s) :
    ∃ t, execReadBackFailure s = .next t ∧ P t := by
  unfold execReadBackFailure
  split
  · rename_i e _ he
    have hreceiver := h.link s { s.lc with receiver := true } (linkFlags_change rfl rfl fun ha => ha) hs
    exact ⟨_, rfl, failAttempt_kept h.toKept may (s := s.setLc _) he hreceiver⟩
  · exact ⟨_, rfl, hs⟩

theorem execAttemptFailed_kept (may : mayHold c) {s : State} (hs : P s) :
    ∃ t, execAttemptFailed s = .next t ∧ P t := by
  unfold execAttemptFailed
  split
  · rename_i e _ he
    exact ⟨_, rfl, failAttempt_kept h.toKept may he hs⟩
  · exact ⟨_, rfl, hs⟩

theorem execFrameDelivered_kept (delivers : c = .frameDelivered) {s : State} (hs : P s) :
    ∃ t, execFrameDelivered s = .next t ∧ P t := by
  unfold execFrameDelivered
  split
  · rename_i e _ he
    exact ⟨_, rfl, deliver_kept h.toKept delivers he hs⟩
  · exact ⟨_, rfl, hs⟩

theorem execFirstIdleSeen_kept {s : State} (hs : P s) : ∃ t, execFirstIdleSeen s = .next t ∧ P t := by
  unfold execFirstIdleSeen
  split
  · exact ⟨_, rfl, h.link _ _ (linkFlags_change rfl rfl fun ha => ha) hs⟩
  · exact ⟨_, rfl, hs⟩

end Commands

/-! ### All commands -/

/-- Every command answers with a next state and keeps what each of its changes keeps. -/
theorem exec_kept {c : Instr} {P : State → Prop} (h : KeptByAll c P) {s : State} (hs : P s) :
    ∃ t, exec c s = .next t ∧ P t := by
  have frame : ∀ {kind : Kind} {src dst : Node} {body : FrameBody} {act : State → State},
      (∀ u, u.loader.mode ≠ none → (kind ≠ .statusQuery → u.inService = true) → P u → P (act u)) →
      ∃ t, receive kind src dst body act s = .next t ∧ P t := fun hact => receive_kept h.toKept _ _ _ hact hs
  cases c with
  | powerOn => exact (powerEvents_kept h (holdUp := true) hs).1 rfl
  | configurationReadComplete bytes => exact startUpReads_kept h rfl hs
  | statusRecordRebuildComplete readA readB => exact startUpReads_kept h rfl hs
  | bankReadComplete match0 match1 => exact startUpReads_kept h rfl hs
  | forwardStep phRdy phRdyAgain => exact beltSteps_kept h rfl hs
  | backwardStep => exact beltSteps_kept h rfl hs
  | sighting => exact execSighting_kept h rfl hs
  | entryUnblock => exact execEntryUnblock_kept h rfl hs
  | exitCellBlock => exact (execExitCell_kept h rfl hs).1
  | exitCellUnblock => exact (execExitCell_kept h rfl hs).2
  | speedPeriodExpiry => exact execSpeedPeriodExpiry_kept h rfl hs
  | sampleArrival raw => exact execSampleArrival_kept h rfl raw hs
  | gaugeArrival reading => exact execGaugeArrival_kept h reading hs
  | headerReadComplete error =>
    exact ⟨_, rfl, walkReadComplete_kept h.toKept (fun w s => headerRead_kept h.toKept w error) .header hs⟩
  | directoryEntryReadComplete error =>
    exact ⟨_, rfl, walkReadComplete_kept h.toKept (fun w s => directoryRead_kept h.toKept w error) .directory hs⟩
  | stepTableReadComplete error =>
    exact ⟨_, rfl, walkReadComplete_kept h.toKept (fun w s => stepsRead_kept h.toKept w error) .steps hs⟩
  | statusWriteComplete wrong => exact execStatusWriteComplete_kept h rfl hs
  | eraseComplete wrong => exact execEraseComplete_kept h rfl hs
  | programComplete wrong => exact execProgramComplete_kept h rfl hs
  | checkReadComplete count error => exact execCheckReadComplete_kept h rfl count error hs
  | debitWriteComplete => exact execDebitWriteComplete_kept h rfl hs
  | creditWriteComplete => exact execCreditWriteComplete_kept h rfl hs
  | attemptStart => exact execAttemptStart_kept h hs
  | lostArbitration => exact execLostArbitration_kept h hs
  | readBackFailure => exact execReadBackFailure_kept h (.inr (.inr rfl)) hs
  | frameDelivered => exact execFrameDelivered_kept h rfl hs
  | attemptFailed => exact execAttemptFailed_kept h (.inr (.inl rfl)) hs
  | powerLoss holdUp => exact (powerEvents_kept h hs).2 rfl
  | firstIdleSeen => exact execFirstIdleSeen_kept h hs
  | lineReset src dst body => exact frame fun u _ service => takeLineReset_kept h rfl (service (by simp))
  | claim src dst body => exact frame fun u _ _ => takeClaim_kept h.toKept rfl src _
  | release src dst body => exact frame fun u _ _ => takeRelease_kept h.toKept src _
  | pause src dst body => exact frame fun u _ _ => takePause_kept h.toKept rfl true
  | resume src dst body => exact frame fun u _ _ => takePause_kept h.toKept rfl false
  | job src dst body => exact frame fun u _ _ => takeJob_kept h.toKept rfl _
  | date src dst body => exact frame fun u _ _ => takeDate_kept h.toKept rfl _
  | dispute src dst body => exact frame fun u _ _ => takeDispute_kept h.toKept rfl src _
  | credit src dst body => exact frame fun u mode _ => takeCredit_kept h rfl _ mode
  | accountQuery src dst body => exact frame (act := fun s => offer (accountReport s.au) s) fun u _ _ => offer_kept h.toKept (fresh_accountReport u.au)
  | clearScale src dst body => exact frame fun u _ _ => takeClearScale_kept h.toKept rfl
  | statusQuery src dst body => exact frame (act := fun s => offer (statusReport s) s) fun u _ _ => offer_kept h.toKept (fresh_statusReport u)
  | online src dst body => exact frame fun u _ _ => takeOnline_kept h.toKept rfl src _
  | tariffOpen src dst body =>
    exact frame fun u mode _ => takeTariffOpen_kept h.toKept rfl _ (inStartUp_of_mode mode)
  | tariffData src dst body => exact frame fun u _ _ => takeTariffData_kept h.toKept rfl _
  | tariffClose src dst body =>
    exact frame fun u mode _ => takeTariffClose_kept h.toKept _ (inStartUp_of_mode mode)

/-- What every command keeps, and the queue of waiting commands does not enter, a step keeps. -/
theorem step_kept {P : State → Prop} (h : ∀ c, KeptByAll c P) (pending : ∀ s v, P s → P (s.setPending v)) {s t : State}
    (hs : P s) (ht : step s = .next t) : P t := by
  unfold step at ht
  split at ht
  · cases ht
    exact hs
  · rename_i c rest _
    obtain ⟨u, hu, hP⟩ := exec_kept (h c) (pending s rest hs)
    rw [hu] at ht
    cases ht
    exact hP

end Sys2Proof.Laws
end

section
/-! PROOFS. What every command keeps of the record table, the transmit queue and the tariff memory, of the modes and sizes, and
when each store and the mode may change. -/

namespace Sys2Proof.Laws

open Sys2Proof.Machine

/-! ### Power (07 R136, 10 R189) -/

/-- What a loss of power changes: the write and the port's operation are settled, and the part has no power and no mode. -/
theorem powerDown_eq {c : Instr} (power : isPowerEvent c = true) (holdUp : Bool) (s : State) :
    ∃ n t, TariffChange c false s.tariff t ∧ t.load = s.tariff.load ∧
      powerDown holdUp s =
        { s with
          au := cutWrite holdUp s.au
          tariff := t
          loader := { s.loader with powered := false, mode := none }
          free := n } := by
  have hport : ∀ t : Tariff, TariffChange c false s.tariff t →
      TariffChange c false s.tariff { t with port := none } := fun t ht =>
    ht.trans (quiet_of_eq rfl rfl ⟨rfl, rfl⟩ ⟨rfl, rfl⟩ ⟨rfl, rfl⟩ : TariffQuiet t { t with port := none }).change
  have hcut : ∃ n t, TariffChange c false s.tariff t ∧ t.load = s.tariff.load ∧
      cutStatusWrite (s.setAu (cutWrite holdUp s.au)) =
        { s with au := cutWrite holdUp s.au, tariff := t, free := n } := by
    unfold cutStatusWrite
    split
    · rename_i id record again _
      have hset : ∀ r, TariffChange c false s.tariff (s.tariff.setRecord id r) := fun r =>
        setRecord_change (.inr power) id r s.tariff
      have hload : ∀ r, (s.tariff.setRecord id r).load = s.tariff.load := fun r => setRecord_load s.tariff id r
      have hdraw := drawIndex_state 3 (s.setAu (cutWrite holdUp s.au))
      split <;> rename_i hd <;> rw [hd] at hdraw <;> dsimp only at hdraw
      · obtain rfl | rfl := hdraw
        · exact ⟨s.free, s.tariff, .refl, rfl, rfl⟩
        · exact ⟨_, s.tariff, .refl, rfl, rfl⟩
      · obtain rfl | rfl := hdraw
        · exact ⟨s.free, _, hset _, hload _, rfl⟩
        · exact ⟨_, _, hset _, hload _, rfl⟩
      · obtain rfl | rfl := hdraw
        · exact ⟨s.free, _, hset _, hload _, rfl⟩
        · exact ⟨_, _, hset _, hload _, rfl⟩
    · exact ⟨s.free, s.tariff, .refl, rfl, rfl⟩
  obtain ⟨n, t, ht, hload, he⟩ := hcut
  refine ⟨n, { t with port := none }, hport t ht, hload, ?_⟩
  unfold powerDown
  rw [he]
  rfl

/-! ### Totality -/

/-- No command touches the queue of waiting commands. -/
theorem keptByAll_pending (c : Instr) (v : List Instr) : KeptByAll c (fun u => u.pending = v) where
  reset _ _ _ h := h
  powerDown s holdUp power _ h := by
    obtain ⟨n, t, -, -, he⟩ := powerDown_eq power holdUp s
    rw [he]
    exact h
  powerUp _ _ h := h
  startUp s t _ ht h := ht.frame.2.2.2.2.2.2.trans h

/-- Settles O2: no command touches the queue of waiting commands, and every command has an answer. -/
theorem everyCommandAnswersANextState : Obligations.EveryCommandAnswersANextState :=
  fun c s => exec_kept (keptByAll_pending c s.pending) rfl

/-! ### The transmit queue (09 R178, R183) -/

theorem keptByAll_queueSound (c : Instr) : KeptByAll c State.queueSound where
  link s v hv h := hv.sound h
  reset _ _ _ h := h
  powerDown s holdUp power _ h := by
    obtain ⟨n, t, -, -, he⟩ := powerDown_eq power holdUp s
    rw [he]
    exact h
  powerUp _ _ _ := resetIsSound.2.2.1
  startUp s t _ ht h := by
    rw [queueSound_iff, ht.frame.2.2.2.2.1]
    exact h

/-- Settles O5: every change that a command makes to the Link Controller keeps a sound queue sound. -/
theorem queueStaysSound : Obligations.QueueStaysSound := fun _ _ sound next =>
  step_kept keptByAll_queueSound (fun _ _ h => h) sound next

/-- The reports of a sound queue stay in it, in their order. -/
theorem keptByAll_reports {c : Instr} {s : State} (notDelivered : c ≠ .frameDelivered) (notPowerOn : c ≠ .powerOn) :
    KeptByAll c (fun u => u.queueSound ∧ (reportsOf s.lc.queue).Sublist (reportsOf u.lc.queue)) where
  link u v hv h := ⟨hv.sound h.1, h.2.trans (hv.reports h.1 notDelivered notPowerOn)⟩
  reset _ _ _ h := h
  powerDown u holdUp power _ h := by
    obtain ⟨n, t, -, -, he⟩ := powerDown_eq power holdUp u
    rw [he]
    exact h
  powerUp _ hc := absurd hc notPowerOn
  startUp u t _ ht h := by
    rw [queueSound_iff, ht.frame.2.2.2.2.1]
    exact h

/-- Settles O11: a change of the queue by any other command leaves the PIECE REPORTs of a sound queue a sublist. -/
theorem pieceReportsLeaveByDelivery : Obligations.PieceReportsLeaveByDelivery := by
  intro c s t sound notDelivered notPowerOn next
  obtain ⟨u, hu, -, hreports⟩ := exec_kept (keptByAll_reports (s := s) notDelivered notPowerOn) ⟨sound, .refl _⟩
  rw [hu] at next
  cases next
  exact hreports

/-! ### The Piece Table (02 R18) -/

theorem orderKey_inj {ref a b : Pos} (h : orderKey ref a = orderKey ref b) : a = b := by
  unfold orderKey at h
  bv_omega

theorem apart_comm (a b : Pos) : apart a b = apart b a := by
  unfold apart
  rw [min_comm]

theorem key_ne_of_apart {w : Nat} {a b : Pos} (h : w < apart a b) : a ≠ b := by
  rintro rfl
  simp [apart] at h

/-- Key order is the order by distance from the line position, and no two keys stand within the window. -/
theorem tableOrdered_iff {w : Nat} {p : Pos} {rs : List Record} :
    tableOrdered w p rs ↔
      rs.Pairwise (fun a b => orderKey p a.key ≤ orderKey p b.key) ∧ rs.Pairwise (fun a b => w < apart a.key b.key) := by
  unfold tableOrdered
  rw [← List.pairwise_and_iff]
  refine ⟨fun h => h.imp fun hab => ⟨hab.1.le, hab.2⟩, fun h => h.imp fun hab => ⟨?_, hab.2⟩⟩
  exact lt_of_le_of_ne hab.1 fun he => key_ne_of_apart hab.2 (orderKey_inj he)

/-- The distances of a table do not depend on its order. -/
theorem apart_perm {w : Nat} {rs qs : List Record} (h : rs.Perm qs) :
    rs.Pairwise (fun a b => w < apart a.key b.key) ↔ qs.Pairwise (fun a b => w < apart a.key b.key) :=
  h.pairwise_iff fun {a b} hab => by rwa [apart_comm]

/-- Records put in key order again keep their distances. -/
theorem tableOrdered_sortByKey {w : Nat} (p : Pos) {rs : List Record}
    (h : rs.Pairwise (fun a b => w < apart a.key b.key)) : tableOrdered w p (sortByKey p rs) :=
  tableOrdered_iff.2 ⟨sortByKey_sorted p rs, (apart_perm (sortByKey_perm p rs)).2 h⟩

/-- Two records outside the window of each other are further apart than the window. -/
theorem apart_of_not_within {w : Nat} {a b : Pos} (h : within w a b = false) : w < apart a b := by
  simpa [within] using h

/-- A change of records that keeps keys keeps their order and distances. -/
theorem tableOrdered_map {w : Nat} {p : Pos} {rs : List Record} {f : Record → Record} (key : ∀ r, (f r).key = r.key)
    (h : tableOrdered w p rs) : tableOrdered w p (rs.map f) :=
  List.pairwise_map.2 (h.imp fun hab => by rw [key, key]; exact hab)

theorem tableOrdered_filterMap {w : Nat} {p : Pos} {rs : List Record} {f : Record → Option Record}
    (key : ∀ r q, f r = some q → q.key = r.key) (h : tableOrdered w p rs) : tableOrdered w p (rs.filterMap f) :=
  List.pairwise_filterMap.2 (h.imp fun {a b} hab x hx y hy => by rw [key a x hx, key b y hy]; exact hab)

/-- A sound table with its records changed, none added and every key kept. -/
theorem tableSound_records {s t : State} (h : s.tableSound) {rs : List Record}
    (length : rs.length ≤ s.table.records.length) (table : t.table.records = rs)
    (ordered : tableOrdered s.loader.config.window s.lpu.linePos s.table.records →
      tableOrdered t.loader.config.window t.lpu.linePos rs)
    (startUp : t.inStartUp = true → s.inStartUp = true) : t.tableSound := by
  obtain ⟨hlen, hord, hnone⟩ := h
  subst table
  refine ⟨length.trans hlen, ordered hord, fun ht => List.eq_nil_of_length_eq_zero ?_⟩
  rw [hnone (startUp ht)] at length
  exact Nat.le_zero.1 length

theorem tableSound_map {s t : State} (h : s.tableSound) {f : Record → Record} (key : ∀ r, (f r).key = r.key)
    (table : t.table.records = s.table.records.map f) (loader : t.loader = s.loader)
    (linePos : t.lpu.linePos = s.lpu.linePos) : t.tableSound :=
  tableSound_records h (by simp) table (fun hord => by rw [loader, linePos]; exact tableOrdered_map key hord)
    (fun ht => by simpa [State.inStartUp, loader] using ht)

/-- A claim changes the books and one record. -/
theorem claimed_eq (k : Pos) (p : Nat) (s : State) :
    (reserveFunds k p s).updateRecord k (fun r => { r with claim := .claiming }) =
      (s.setAu { s.au with reserved := s.au.reserved + p, outstanding := s.au.outstanding + 1 }).updateRecord k
        (fun r => { r with reserved := some p, claim := .claiming }) :=
  updateRecord_updateRecord (s.setAu _) k (fun r => { r with reserved := some p }) _ (by intro q hq; exact hq)

theorem keptByAll_tableSound (c : Instr) : KeptByAll c State.tableSound where
  lpu s v hv h := by
    refine tableSound_records (t := s.setLpu v) h le_rfl rfl (fun hord => ?_) id
    rw [State.setLpu_lpu, hv.linePos]
    exact hord
  change s f hf h := tableSound_map (t := s.setTable _) h hf.key rfl rfl rfl
  remove s k _ h := tableSound_records (t := s.setTable _) h (List.length_filter_le _ _) rfl (fun hord => hord.filter _) id
  insert s r running room away _ _ h := by
    obtain ⟨-, hord, -⟩ := h
    obtain ⟨hsorted, happart⟩ := tableOrdered_iff.1 hord
    have hperm := insertByKey_perm s.lpu.linePos r s.table.records
    refine ⟨?_, tableOrdered_iff.2 ⟨insertByKey_sorted _ r hsorted, ?_⟩, fun hstart => ?_⟩
    · exact hperm.length_eq.trans_le room
    · refine (apart_perm hperm).2 (List.pairwise_cons.2 ⟨fun q hq => ?_, happart⟩)
      rw [apart_comm]
      exact apart_of_not_within (away q hq)
    · have hrun : s.loader.mode = some .running := by simpa [State.running] using running
      simp [State.inStartUp, hrun] at hstart
  claim s r p _ _ _ _ _ _ _ _ h := by
    refine tableSound_map (f := atKey r.key (fun q => { q with reserved := some p, claim := .claiming })) h (fun q => ?_) ?_
      rfl rfl
    · unfold atKey
      split <;> rfl
    · rw [claimed_eq]
      rfl
  release s r f _ _ hf h := by
    refine tableSound_map (f := atKey r.key f) (t := (releaseFunds r s).updateRecord r.key f) h (fun q => ?_) rfl rfl rfl
    unfold atKey
    split
    · exact (hf q).key
    · rfl
  commit s r f _ _ hf h := by
    refine tableSound_map (f := atKey r.key f) (t := State.setAu _ _) h (fun q => ?_) rfl rfl rfl
    unfold atKey
    split
    · exact (hf q).key
    · rfl
  hold s why _ _ h := by
    refine tableSound_records (t := State.setTable _ _) h (List.length_filterMap_le _ _) rfl
      (fun hord => tableOrdered_filterMap (fun r q hq => (recordAtHold_kept hq).1) hord) (fun hstart => ?_)
    simp [State.inStartUp] at hstart
  forward s _ h := tableSound_records (t := reorder _) h (sortByKey_perm _ _).length_eq.le rfl
    (fun hord => tableOrdered_sortByKey _ (tableOrdered_iff.1 hord).2) id
  backward s _ h := tableSound_records (t := reorder _) h (sortByKey_perm _ _).length_eq.le rfl
    (fun hord => tableOrdered_sortByKey _ (tableOrdered_iff.1 hord).2) id
  reset s _ service h := by
    have hheld : (tableAtReset s).records.length ≤ s.table.records.length ∧
        (tableAtReset s).records.Pairwise (fun a b => s.loader.config.window < apart a.key b.key) := by
      unfold tableAtReset
      split
      · exact ⟨List.length_filterMap_le _ _, (tableOrdered_iff.1
          (tableOrdered_filterMap (fun r q hq => (recordAtHold_kept hq).1) h.2.1)).2⟩
      · exact ⟨le_rfl, (tableOrdered_iff.1 h.2.1).2⟩
    refine tableSound_records (t := resetBlocks s) h ?_ rfl (fun _ => ?_) (fun hstart => ?_)
    · refine (sortByKey_perm _ _).length_eq.trans_le ?_
      rw [List.length_map]
      exact (List.length_filter_le _ _).trans hheld.1
    · exact tableOrdered_sortByKey _ (List.pairwise_map.2 (hheld.2.filter _))
    · simp [State.inStartUp, resetBlocks] at hstart
  powerDown s holdUp power _ h := by
    obtain ⟨n, t, -, -, he⟩ := powerDown_eq power holdUp s
    rw [he]
    exact ⟨h.1, h.2.1, fun hstart => by simp [State.inStartUp] at hstart⟩
  powerUp _ _ _ := ⟨by simp [powerUp, State.reset], by simp [powerUp, State.reset, tableOrdered], fun _ => rfl⟩
  startUp s t _ ht h := by
    have hnone : t.table.records = [] := by rw [ht.frame.1]; exact h.2.2 ht.startUp
    exact ⟨by simp [hnone], by simp [hnone, tableOrdered], fun _ => hnone⟩
  debitDone s item set _ _ _ h :=
    tableSound_map (f := atKey item.key (debitedRecord (bookDebit item set s.au).registers.count))
      (t := State.updateRecord _ _ _) h (fun q => by unfold atKey; split <;> rfl) rfl rfl rfl

/-- Settles O4: every change of the table keeps its places, its order and its distances, and a step of the belt orders it
anew. -/
theorem tableStaysOrdered : Obligations.TableStaysOrdered := fun _ _ sound next =>
  step_kept keptByAll_tableSound (fun _ _ h => h) sound next

end Sys2Proof.Laws
end

section
/-! PROOFS. The tariff memory and its slots, the station mode, BLIND, and the sizes of counters and lists, after every command
(04 R61, 10 R196, 02 R28). -/

namespace Sys2Proof.Laws

open Sys2Proof.Machine

/-! ### The tariff memory (04 R61) -/

theorem keptByAll_memoryFits (c : Instr) : KeptByAll c (fun u => memoryFits u.tariff) where
  tariff s v hv h := hv.memory h
  reset _ _ _ h := h
  powerDown s holdUp power _ h := by
    obtain ⟨n, t, ht, -, he⟩ := powerDown_eq power holdUp s
    rw [he]
    exact ht.memory h
  powerUp s _ h := ⟨fun id => by cases id; exacts [h.1 .a, h.1 .b], by simp [powerUp, State.reset], fun id hl => by
    cases id <;> simp [powerUp, State.reset, Tariff.slot, Slot.blank] at hl⟩
  startUp s t _ ht h := by
    refine ⟨by rw [ht.areas]; exact h.1, by rw [ht.buffer]; exact h.2.1, fun id hl => ?_⟩
    obtain hslot | hslot := ht.slots
    · rw [hslot] at hl ⊢
      exact h.2.2 id hl
    · exact absurd hl (hslot.1 id)

/-- The slots of a state are sound. -/
def slotsLaw (u : State) : Prop := slotsFit u.tariff ∧ (u.inStartUp = true → u.tariff.load = none)

theorem keptByAll_slotsLaw (c : Instr) : KeptByAll c slotsLaw where
  tariff s v hv h := ⟨hv.states h.1, fun hstart => hv.load hstart (h.2 hstart)⟩
  hold s why _ _ h := ⟨h.1, fun hstart => by simp [State.inStartUp] at hstart⟩
  reset s _ _ h := ⟨h.1, fun hstart => by simp [State.inStartUp, resetBlocks] at hstart⟩
  powerDown s holdUp power _ h := by
    obtain ⟨n, t, ht, -, he⟩ := powerDown_eq power holdUp s
    rw [he]
    exact ⟨ht.states h.1, fun hstart => by simp [State.inStartUp] at hstart⟩
  powerUp s _ _ := ⟨⟨fun id => by
    cases id <;> simp [powerUp, State.reset, Tariff.slot, Slot.blank], fun id => by
    cases id <;> simp [powerUp, State.reset, Tariff.slot, Slot.blank]⟩, fun _ => rfl⟩
  startUp s t _ ht h := by
    have hload : t.tariff.load = none := ht.load.trans (h.2 ht.startUp)
    refine ⟨?_, fun _ => hload⟩
    obtain hslot | ⟨hloading, hactive⟩ := ht.slots
    · have hfit := h.1
      unfold slotsFit at hfit ⊢
      rw [hslot, ht.load]
      exact hfit
    · refine ⟨fun id h1 h2 => ?_, fun id => by simp [hload, hloading id]⟩
      cases id
      · exact hactive ⟨h1, h2⟩
      · exact hactive ⟨h2, h1⟩

/-- Settles O6: no command brings bytes outside the slot areas, and each moves slots between their states one at a time. -/
theorem tariffMemoryStaysSound : Obligations.TariffMemoryStaysSound := by
  refine ⟨fun s t sound next => ?_, fun s t sound next => ?_⟩
  · exact (memorySound_iff t).2
      (step_kept keptByAll_memoryFits (fun _ _ h => h) ((memorySound_iff s).1 sound) next)
  · exact (slotsSound_iff t).2
      (step_kept keptByAll_slotsLaw (fun _ _ h => h) ((slotsSound_iff s).1 sound) next)

/-! ### The mode and its reason (10 Table 10-3, R196) -/

theorem keptByAll_modeSound (c : Instr) : KeptByAll c (fun u => u.modeSound = true) where
  hold s why _ running h := by
    have hmode : s.loader.mode = some .running := by simpa [State.running] using running
    simp only [State.modeSound, hmode] at h ⊢
    cases hreason : s.loader.reason <;> simp_all
  reset s _ service h := by
    simp only [State.modeSound, State.inService, resetBlocks] at *
    cases hmode : s.loader.mode with
    | none => simp [hmode] at service
    | some m => cases m <;> cases hreason : s.loader.reason <;> simp_all
  powerDown s holdUp power _ _ := by simp [State.modeSound, powerDown]
  powerUp _ _ _ := rfl
  startUp s t _ ht h := by
    obtain ⟨l, hpowered, hmode, hreason, hl⟩ := ht.loader
    obtain ⟨hon, hnone⟩ := (inStartUp_iff s).1 ht.startUp
    have hsame : s.loader.reason = .none := by
      simp only [State.modeSound, hon, hnone] at h
      cases hr : s.loader.reason <;> simp_all
    simp only [State.modeSound, hl]
    split
    · rename_i hdone
      unfold modeAfterRead
      split <;> simp_all
    · rename_i hwaits
      have hwaits : (l.configDone && l.slotsDone && l.banksDone) = false := by simpa using hwaits
      simp [hmode, hreason.trans hsame, hwaits]

/-! ### BLIND and the blind horizon (02 R28) -/

theorem keptByAll_blindSound (c : Instr) : KeptByAll c (fun u => u.blindSound = true) where
  inhibit s v _ hv h := by simpa [State.blindSound, hv] using h
  horizonCleared s q _ _ _ _ := rfl
  horizonHeld s _ held _ := by simp [State.blindSound, held]
  horizonMoved s k q _ _ := rfl
  reset _ _ _ _ := rfl
  powerDown s holdUp power _ h := by
    obtain ⟨n, t, -, -, he⟩ := powerDown_eq power holdUp s
    rw [he]
    exact h
  powerUp _ _ _ := rfl
  startUp s t _ ht h := by
    rw [State.blindSound, ht.blind, ht.frame.1]
    exact h

/-! ### Sizes -/

/-- The counters and lists of every block within their sizes. -/
def sizesLaw (u : State) : Prop :=
  lpuFits u.lpu ∧ u.tariff.buffer.length ≤ 2 ∧ raterFits u.rater ∧ claimsFit u.cc ∧ u.lc.abandons ≤ 3

theorem sizesSound_iff (s : State) : s.sizesSound = true ↔ sizesLaw s := by
  simp only [State.sizesSound, sizesLaw, lpuFits, raterFits, claimsFit, Bool.and_eq_true, decide_eq_true_eq, beq_iff_eq,
    List.all_eq_true, and_assoc]

theorem lpuForward_fits {l : Lpu} (h : lpuFits l) : lpuFits (lpuForward l) := by
  obtain ⟨⟨h1, h2⟩, h3, -, h4, h5⟩ := h
  simp only [lpuFits, lpuForward, runForward, Config.countCap]
  refine ⟨⟨by omega, by omega⟩, h3, by omega, ?_, ?_⟩ <;> split <;> omega

theorem lpuBackward_fits {l : Lpu} (h : lpuFits l) : lpuFits (lpuBackward l) := by
  obtain ⟨⟨h1, h2⟩, h3, -, h4, h5⟩ := h
  simp only [lpuFits, lpuBackward, runBackward, Config.countCap]
  refine ⟨⟨by omega, by omega⟩, h3, by omega, ?_, ?_⟩ <;> split <;> omega

theorem keptByAll_sizesLaw (c : Instr) : KeptByAll c sizesLaw where
  cc s v _ hv h := ⟨h.1, h.2.1, h.2.2.1, hv h.2.2.2.1, h.2.2.2.2⟩
  rater s v hv h := ⟨h.1, h.2.1, hv.fits h.2.2.1, h.2.2.2⟩
  tariff s v hv h := ⟨h.1, hv.buffer h.2.1, h.2.2⟩
  link s v hv h := ⟨h.1, h.2.1, h.2.2.1, h.2.2.2.1, hv.abandons h.2.2.2.2⟩
  lpu s v hv h := ⟨hv.fits h.1, h.2⟩
  forward s _ h := ⟨lpuForward_fits h.1, h.2⟩
  backward s _ h := ⟨lpuBackward_fits h.1, h.2⟩
  reset s _ _ h := ⟨⟨h.1.1, h.1.2.1, Nat.zero_le _, h.1.2.2.2⟩, h.2⟩
  powerDown s holdUp power _ h := by
    obtain ⟨n, t, ht, -, he⟩ := powerDown_eq power holdUp s
    rw [he]
    exact ⟨h.1, ht.buffer h.2.1, h.2.2⟩
  powerUp _ _ _ := (sizesSound_iff _).1 resetIsSound.2.2.2.2.2.2.2
  startUp s t _ ht h := by
    obtain ⟨-, hrater, hcc, -, hlc, -, -⟩ := ht.frame
    unfold sizesLaw
    rw [ht.buffer, hrater, hcc, hlc]
    exact ⟨ht.lpu h.1, h.2⟩

/-- Settles O7, by three step invariants: the mode with its reason, BLIND with the horizon, and the sizes. -/
theorem modesAndSizesStaySound : Obligations.ModesAndSizesStaySound := by
  refine ⟨fun s t sound next => ?_, fun s t sound next => ?_, fun s t sound next => ?_⟩
  · exact step_kept keptByAll_modeSound (fun _ _ h => h) sound next
  · exact step_kept keptByAll_blindSound (fun _ _ h => h) sound next
  · exact (sizesSound_iff t).2 (step_kept keptByAll_sizesLaw (fun _ _ h => h) ((sizesSound_iff s).1 sound) next)

/-! ### Changes of the mode (10 Table 10-3) -/

/-- The changes of mode that Table 10-3 gives a command, and a loss of power. -/
def modeFollows (c : Instr) (before after : Option StationMode) : Prop :=
  (isPowerEvent c = true ∧ after = none) ∨
    (isStartUpRead c = true ∧ before = none ∧ (after = some .unsynced ∨ after = some .offline)) ∨
    ((isBeltStep c = true ∨ c = .attemptFailed ∨ c = .readBackFailure) ∧ before = some .running ∧ after = some .hold) ∨
    (isLineReset c = true ∧ (before = some .unsynced ∨ before = some .hold) ∧ after = some .running)

theorem keptByAll_mode (c : Instr) (m : Option StationMode) :
    KeptByAll c (fun u => u.loader.mode = m ∨ modeFollows c m u.loader.mode) where
  hold s why may running h := by
    have hmode : s.loader.mode = some .running := by simpa [State.running] using running
    have hm : m = some .running := by
      obtain h | ⟨-, h⟩ | ⟨-, -, h⟩ | ⟨-, -, h⟩ | ⟨hreset, -, -⟩ := h
      · exact h.symm.trans hmode
      · simp [hmode] at h
      · simp [hmode] at h
      · simp [hmode] at h
      · obtain hb | rfl | rfl := may
        · cases c <;> simp [isLineReset, isBeltStep] at hreset hb
        · cases hreset
        · cases hreset
    exact .inr (.inr (.inr (.inl ⟨may, hm, rfl⟩)))
  reset s resets service h := by
    obtain h | ⟨-, h⟩ | ⟨hread, -, -⟩ | ⟨hbelt, -, -⟩ | ⟨-, hfrom, -⟩ := h
    · simp only [State.inService, h] at service
      cases m with
      | none => simp at service
      | some m =>
        cases m
        · simp at service
        · exact .inr (.inr (.inr (.inr ⟨resets, .inl rfl, rfl⟩)))
        · exact .inl rfl
        · exact .inr (.inr (.inr (.inr ⟨resets, .inr rfl, rfl⟩)))
    · simp [State.inService, h] at service
    · cases c <;> simp [isLineReset, isStartUpRead] at resets hread
    · cases c <;> simp [isLineReset, isBeltStep] at resets hbelt
    · exact .inr (.inr (.inr (.inr ⟨resets, hfrom, rfl⟩)))
  powerDown s holdUp power _ _ := .inr (.inl ⟨power, rfl⟩)
  powerUp s hc _ := .inr (.inl ⟨by rw [hc]; rfl, rfl⟩)
  startUp s t reads ht h := by
    obtain ⟨-, hnone⟩ := (inStartUp_iff s).1 ht.startUp
    have hm : m = none := by
      obtain h | ⟨hpower, -⟩ | ⟨-, hm, -⟩ | ⟨-, -, h⟩ | ⟨-, -, h⟩ := h
      · exact h.symm.trans hnone
      · cases c <;> simp [isPowerEvent, isStartUpRead] at reads hpower
      · exact hm
      · simp [hnone] at h
      · simp [hnone] at h
    obtain ⟨l, -, hmode, -, hl⟩ := ht.loader
    rw [hl]
    split
    · unfold modeAfterRead
      split
      · exact .inr (.inr (.inl ⟨reads, hm, .inl rfl⟩))
      · exact .inr (.inr (.inl ⟨reads, hm, .inr rfl⟩))
    · exact .inl (hmode.trans hm.symm)

/-- Settles O12: the commands that change the mode are those of Table 10-3. -/
theorem modesFollowTheirTable : Obligations.ModesFollowTheirTable := by
  intro c s t _ next changed
  obtain ⟨u, hu, hmode⟩ := exec_kept (keptByAll_mode c s.loader.mode) (.inl rfl)
  rw [hu] at next
  cases next
  exact hmode.resolve_left changed

/-! ### When each store changes (04 R62, R67, R69, 07 R135) -/

theorem registers_eq {au v : Account} (faulted : v.faulted = au.faulted) (bank : v.bank v.current = au.bank au.current) :
    v.registers = au.registers := by
  unfold Account.registers
  rw [faulted, bank]

theorem cutWrite_registers (holdUp : Bool) (au : Account) : (cutWrite holdUp au).registers = au.registers := by
  unfold cutWrite
  split
  · rfl
  · refine registers_eq ?_ ?_
    · cases hc : au.current <;> rfl
    · cases hc : au.current <;> simp [Account.bank, Account.setBank, BankId.other, hc]

theorem keptByAll_registers {c : Instr} (notDebit : c ≠ .debitWriteComplete) (notCredit : c ≠ .creditWriteComplete)
    (notPowerOn : c ≠ .powerOn) (notRead : isStartUpRead c = false) (n : NvSet) :
    KeptByAll c (fun u => u.au.registers = n) where
  reset s _ _ h := by
    refine Eq.trans ?_ h
    unfold resetBlocks
    dsimp only [State.setLoader_au, State.setInhibit_au, State.setLpu_au, State.setTable_au, State.setAu_au]
    split <;> rfl
  powerDown s holdUp power _ h := by
    obtain ⟨m, t, -, -, he⟩ := powerDown_eq power holdUp s
    rw [he]
    exact (cutWrite_registers holdUp s.au).trans h
  powerUp _ hc := absurd hc notPowerOn
  startUp _ _ reads := absurd (notRead.symm.trans reads) (by simp)
  debitDone _ _ _ hc := absurd hc notDebit
  creditDone _ _ hc := absurd hc notCredit

theorem keptByAll_areas {c : Instr} (notErase : ∀ w, c ≠ .eraseComplete w) (notProgram : ∀ w, c ≠ .programComplete w)
    (m : SlotId → Memory) : KeptByAll c (fun u => u.tariff.area = m) where
  tariff s v hv h := (hv.areas notErase notProgram).trans h
  reset _ _ _ h := h
  powerDown s holdUp power _ h := by
    obtain ⟨n, t, ht, -, he⟩ := powerDown_eq power holdUp s
    rw [he]
    exact (ht.areas notErase notProgram).trans h
  powerUp _ _ h := Eq.trans (funext fun id => by cases id <;> rfl) h
  startUp s t _ ht h := ht.areas.trans h

theorem keptByAll_records {c : Instr} (notWrite : ∀ w, c ≠ .statusWriteComplete w) (notPower : isPowerEvent c = false)
    (m : SlotId → Option SlotRecord) : KeptByAll c (fun u => u.tariff.record = m) where
  tariff s v hv h := (hv.records notWrite notPower).trans h
  reset _ _ _ h := h
  powerDown _ _ power := absurd (notPower.symm.trans power) (by simp)
  powerUp _ hc := by
    rw [hc] at notPower
    cases notPower
  startUp s t _ ht h := ht.records.trans h

/-- Settles O9, store by store. -/
theorem storesChangeAtTheirCompletions : Obligations.StoresChangeAtTheirCompletions := by
  intro c s t next
  have kept : ∀ {P : State → Prop}, KeptByAll c P → P s → P t := by
    intro P h hs
    obtain ⟨u, hu, hP⟩ := exec_kept h hs
    rw [hu] at next
    cases next
    exact hP
  refine ⟨fun h1 h2 h3 h4 => kept (keptByAll_registers h1 h2 h3 h4 _) rfl, fun h1 h2 => ?_, fun h1 h2 => ?_⟩
  · have harea := kept (keptByAll_areas h1 h2 s.tariff.area) rfl
    exact ⟨congrFun harea .a, congrFun harea .b⟩
  · have hrecord := kept (keptByAll_records h1 h2 s.tariff.record) rfl
    exact ⟨congrFun hrecord .a, congrFun hrecord .b⟩

end Sys2Proof.Laws
end

section
/-! PROOFS. The funds law: every bank balances, and the books of a powered part agree with the records and never promise more
than the descending register holds (07 R135, R138). -/

namespace Sys2Proof.Laws

open Sys2Proof.Machine

/-! ### The law, said of the Start-up Loader, the books and the records -/

/-- The books of reservations and debits (07 R138), for a list of records. -/
structure BooksLaw (au : Account) (rs : List Record) : Prop where
  reserved : au.reserved = (rs.map Record.held).sum
  committed : au.committed = (au.queue.map (fun i => i.amount)).sum + amountInWrite au.write
  outstanding : au.outstanding = (rs.filter givenUp).length + au.queue.length + debitsInWrite au.write
  covered : au.reserved + au.committed ≤ au.registers.descending
  continues : writeContinues au = true
  once : (au.pendingDebits.map (fun i => i.key)).Nodup
  owners : ∀ i ∈ au.pendingDebits, ∃ r ∈ rs, r.key = i.key ∧ owes r = true

/-- The mode is RUNNING. -/
def runs (l : Loader) : Bool := l.mode == some .running

/-- The funds law (07 R135, R138). -/
structure FundsLaw (l : Loader) (au : Account) (rs : List Record) : Prop where
  bank0 : bankBalanced au.bank0 = true
  bank1 : bankBalanced au.bank1 = true
  keys : (rs.map (fun r => r.key)).Nodup
  books : l.powered = true → BooksLaw au rs
  placed : l.powered = true → ∀ r ∈ rs, fundsPlaced (runs l) r = true
  startUp : l.powered = true → l.mode = none → rs = [] ∧ au.queue = [] ∧ au.write = none

theorem booksAgree_iff (s : State) : s.booksAgree = true ↔ BooksLaw s.au s.table.records := by
  have howner : s.au.pendingDebits.all (debitHasRecord s.table.records) = true ↔
      ∀ i ∈ s.au.pendingDebits, ∃ r ∈ s.table.records, r.key = i.key ∧ owes r = true := by
    simp [List.all_eq_true, debitHasRecord, owes, and_assoc]
  simp only [State.booksAgree, Bool.and_eq_true, beq_iff_eq, decide_eq_true_eq, howner]
  exact ⟨fun ⟨⟨⟨⟨⟨⟨h1, h2⟩, h3⟩, h4⟩, h5⟩, h6⟩, h7⟩ => ⟨h1, h2, h3, h4, h5, h6, h7⟩,
    fun h => ⟨⟨⟨⟨⟨⟨h.reserved, h.committed⟩, h.outstanding⟩, h.covered⟩, h.continues⟩, h.once⟩, h.owners⟩⟩

theorem fundsSound_iff (s : State) : s.fundsSound = true ↔ FundsLaw s.loader s.au s.table.records := by
  have hplaced : (s.table.records.all Record.claimPlaced = true ∧ s.table.records.all Record.numberPlaced = true ∧
      s.recordsByMode = true) ↔ ∀ r ∈ s.table.records, fundsPlaced (runs s.loader) r = true := by
    simp only [List.all_eq_true, State.recordsByMode, State.running, fundsPlaced, runs, Bool.and_eq_true, Bool.or_eq_true]
    constructor
    · rintro ⟨h1, h2, h3⟩ r hr
      exact ⟨⟨h1 r hr, h2 r hr⟩, h3.imp id fun h => h r hr⟩
    · intro h
      refine ⟨fun r hr => (h r hr).1.1, fun r hr => (h r hr).1.2, ?_⟩
      by_cases hrun : (s.loader.mode == some StationMode.running) = true
      · exact .inl hrun
      · exact .inr fun r hr => (h r hr).2.resolve_left hrun
  have hstart : s.startUpEmpty = true ↔
      (s.inStartUp = true → s.table.records = [] ∧ s.au.queue = [] ∧ s.au.write = none) := by
    cases hs : s.inStartUp <;> simp [State.startUpEmpty, hs, and_assoc]
  unfold State.fundsSound
  simp only [Bool.and_eq_true, decide_eq_true_eq, Bool.or_eq_true, Bool.not_eq_true', booksAgree_iff, hstart, inStartUp_iff]
  constructor
  · rintro ⟨⟨⟨h0, h1⟩, hkeys⟩, hpower⟩
    have hon : s.loader.powered = true → _ := fun hp => hpower.resolve_left (by simp [hp])
    exact ⟨h0, h1, hkeys, fun hp => (hon hp).1.1.1.1,
      fun hp => hplaced.1 ⟨(hon hp).1.1.1.2, (hon hp).1.1.2, (hon hp).1.2⟩, fun hp hm => (hon hp).2 ⟨hp, hm⟩⟩
  · intro h
    refine ⟨⟨⟨h.bank0, h.bank1⟩, h.keys⟩, ?_⟩
    by_cases hp : s.loader.powered = true
    · obtain ⟨h1, h2, h3⟩ := hplaced.2 (h.placed hp)
      exact .inr ⟨⟨⟨⟨h.books hp, h1⟩, h2⟩, h3⟩, fun hs => h.startUp hs.1 hs.2⟩
    · exact .inl (by simpa using hp)

/-! ### Sums over a table of unequal keys -/

theorem givenUp_count (rs : List Record) :
    (rs.filter givenUp).length = (rs.map (fun r => if givenUp r then 1 else 0)).sum := by
  induction rs with
  | nil => rfl
  | cons r rest ih => by_cases h : givenUp r = true <;> simp [h, ih, Nat.add_comm]

/-- A change at one key changes a sum by what it changes of that record. -/
theorem sum_atKey {rs : List Record} (keys : (rs.map (fun r => r.key)).Nodup) {r : Record} (hr : r ∈ rs)
    (f : Record → Record) (g : Record → Nat) :
    ((rs.map (atKey r.key f)).map g).sum + g r = (rs.map g).sum + g (f r) := by
  induction rs with
  | nil => cases hr
  | cons x xs ih =>
    obtain ⟨hx, hxs⟩ := List.nodup_cons.1 (show (x.key :: xs.map (fun r => r.key)).Nodup from keys)
    simp only [List.map_cons, List.sum_cons]
    obtain rfl | hr := List.mem_cons.1 hr
    · have hrest : xs.map (atKey r.key f) = xs := by
        refine (List.map_congr_left fun q hq => ?_).trans (List.map_id _)
        unfold atKey
        rw [if_neg]
        · rfl
        · simp only [beq_iff_eq]
          exact fun hk => hx (hk ▸ List.mem_map_of_mem hq)
      rw [hrest]
      simp [atKey]
      omega
    · have hne : x.key ≠ r.key := fun hk => hx (hk ▸ List.mem_map_of_mem hr)
      have := ih hxs hr
      simp [atKey, hne] at this ⊢
      omega

theorem registers_balanced {au : Account} (h0 : bankBalanced au.bank0 = true) (h1 : bankBalanced au.bank1 = true) :
    au.registers.balanced = true := by
  unfold Account.registers
  split
  · rfl
  · cases au.current
    · cases hb : au.bank0 with
      | none => simp [Account.bank, hb, NvSet.blank, NvSet.balanced]
      | some n => simpa [Account.bank, hb, bankBalanced] using h0
    · cases hb : au.bank1 with
      | none => simp [Account.bank, hb, NvSet.blank, NvSet.balanced]
      | some n => simpa [Account.bank, hb, bankBalanced] using h1

/-! ### Changes of the records alone -/

theorem held_of_ungiven {r : Record} (h : givenUp r = false) : r.held = 0 := by simp [Record.held, h]

variable {l : Loader} {au : Account} {rs : List Record}

theorem FundsLaw.map (h : FundsLaw l au rs) {f : Record → Record} (key : ∀ r, (f r).key = r.key)
    (books : ∀ r ∈ rs, keepsBooks (runs l) r (f r)) : FundsLaw l au (rs.map f) where
  bank0 := h.bank0
  bank1 := h.bank1
  keys := by
    rw [List.map_map, show (fun r : Record => r.key) ∘ f = fun r => r.key from funext key]
    exact h.keys
  books hp := by
    have hb := h.books hp
    have hall := fun r hr => books r hr (h.placed hp r hr)
    refine ⟨?_, hb.committed, ?_, hb.covered, hb.continues, hb.once, fun i hi => ?_⟩
    · rw [hb.reserved, List.map_map]
      exact congrArg _ (List.map_congr_left fun r hr => (hall r hr).2.1.symm)
    · rw [hb.outstanding, givenUp_count, givenUp_count, List.map_map]
      congr 3
      exact List.map_congr_left fun r hr => by simp [(hall r hr).2.2.1]
    · obtain ⟨r, hr, hk, ho⟩ := hb.owners i hi
      exact ⟨f r, List.mem_map_of_mem hr, (key r).trans hk, (hall r hr).2.2.2 ho⟩
  placed hp := by
    intro q hq
    obtain ⟨r, hr, rfl⟩ := List.mem_map.1 hq
    exact (books r hr (h.placed hp r hr)).1
  startUp hp hm := by
    obtain ⟨h1, h2⟩ := h.startUp hp hm
    exact ⟨by simp [h1], h2⟩

theorem FundsLaw.perm {qs : List Record} (h : FundsLaw l au rs) (hperm : qs.Perm rs) : FundsLaw l au qs where
  bank0 := h.bank0
  bank1 := h.bank1
  keys := ((hperm.map _).nodup_iff).2 h.keys
  books hp := by
    have hb := h.books hp
    exact ⟨hb.reserved.trans (hperm.map _).sum_eq.symm, hb.committed, by
      rw [hb.outstanding, (hperm.filter _).length_eq], hb.covered, hb.continues, hb.once, fun i hi => by
      obtain ⟨r, hr, h⟩ := hb.owners i hi
      exact ⟨r, hperm.mem_iff.2 hr, h⟩⟩
  placed hp r hr := h.placed hp r (hperm.mem_iff.1 hr)
  startUp hp hm := by
    obtain ⟨h1, h2⟩ := h.startUp hp hm
    subst h1
    exact ⟨hperm.eq_nil, h2⟩

/-- Records without a reservation and without a pending debit may leave. -/
theorem FundsLaw.filter (h : FundsLaw l au rs) {p : Record → Bool}
    (go : ∀ r ∈ rs, p r = false → mayGo (runs l) r) : FundsLaw l au (rs.filter p) where
  bank0 := h.bank0
  bank1 := h.bank1
  keys := h.keys.sublist (List.filter_sublist.map _)
  books hp := by
    have hb := h.books hp
    have hgone : ∀ r ∈ rs, p r = false → givenUp r = false ∧ owes r = false := fun r hr hpr =>
      go r hr hpr (h.placed hp r hr)
    have hsum : ∀ rs' : List Record, (∀ r ∈ rs', p r = false → givenUp r = false) →
        ((rs'.filter p).map Record.held).sum = (rs'.map Record.held).sum := by
      intro rs' hrs
      induction rs' with
      | nil => rfl
      | cons r rest ih =>
        have ih := ih fun q hq => hrs q (by simp [hq])
        by_cases hpr : p r = true
        · simp [hpr, ih]
        · simp [hpr, ih, held_of_ungiven (hrs r (by simp) (by simpa using hpr))]
    refine ⟨hb.reserved.trans (hsum rs fun r hr hpr => (hgone r hr hpr).1).symm, hb.committed, ?_, hb.covered,
      hb.continues, hb.once, fun i hi => ?_⟩
    · rw [hb.outstanding, List.filter_filter]
      congr 3
      refine List.filter_congr fun r hr => ?_
      by_cases hpr : p r = true
      · simp [hpr]
      · simp [hpr, (hgone r hr (by simpa using hpr)).1]
    · obtain ⟨r, hr, hk, ho⟩ := hb.owners i hi
      refine ⟨r, List.mem_filter.2 ⟨hr, ?_⟩, hk, ho⟩
      by_contra hpr
      exact absurd ((hgone r hr (by simpa using hpr)).2.symm.trans ho) (by simp)
  placed hp r hr := h.placed hp r (List.mem_of_mem_filter hr)
  startUp hp hm := by
    obtain ⟨h1, h2⟩ := h.startUp hp hm
    exact ⟨by simp [h1], h2⟩

/-- A record without a reservation and without a number may come. -/
theorem FundsLaw.cons (h : FundsLaw l au rs) {r : Record} (running : runs l = true) (fresh : ∀ q ∈ rs, q.key ≠ r.key)
    (claim : r.claim = .opened ∨ r.claim = .foreign) (number : r.pieceNumber = none) : FundsLaw l au (r :: rs) := by
  have hungiven : givenUp r = false := by obtain hc | hc := claim <;> simp [givenUp, hc]
  refine ⟨h.bank0, h.bank1, ?_, fun hp => ?_, fun hp q hq => ?_, fun hp hm => ?_⟩
  · refine List.nodup_cons.2 ⟨fun hmem => ?_, h.keys⟩
    obtain ⟨q, hq, hk⟩ := List.mem_map.1 hmem
    exact fresh q hq hk
  · have hb := h.books hp
    exact ⟨by simpa [held_of_ungiven hungiven] using hb.reserved, hb.committed, by simpa [hungiven] using hb.outstanding,
      hb.covered, hb.continues, hb.once, fun i hi => by
        obtain ⟨q, hq, h⟩ := hb.owners i hi
        exact ⟨q, by simp [hq], h⟩⟩
  · obtain rfl | hq := List.mem_cons.1 hq
    · obtain hc | hc := claim <;> simp [fundsPlaced, Record.claimPlaced, Record.numberPlaced, givenUp, hc, number, running]
    · exact h.placed hp q hq
  · simp [runs, hm] at running

/-! ### Reservations and commits (07 R139 to R142) -/

/-- The books move together with one record. -/
theorem FundsLaw.move (h : FundsLaw l au rs) {r : Record} (hr : r ∈ rs) {f : Record → Record}
    (key : ∀ q, (f q).key = q.key) {v : Account} (banks : bankBalanced v.bank0 = true ∧ bankBalanced v.bank1 = true)
    (placed : l.powered = true → fundsPlaced (runs l) (f r) = true)
    (books : l.powered = true → BooksLaw v (rs.map (atKey r.key f))) : FundsLaw l v (rs.map (atKey r.key f)) where
  bank0 := banks.1
  bank1 := banks.2
  keys := by
    have hkey : ∀ q, (atKey r.key f q).key = q.key := fun q => by
      unfold atKey
      split
      · exact key q
      · rfl
    rw [List.map_map, show (fun r : Record => r.key) ∘ atKey r.key f = fun r => r.key from funext hkey]
    exact h.keys
  books := books
  placed hp q hq := by
    obtain ⟨x, hx, rfl⟩ := List.mem_map.1 hq
    unfold atKey
    split
    · rename_i hk
      rw [List.inj_on_of_nodup_map h.keys hx hr (by simpa using hk)]
      exact placed hp
    · exact h.placed hp x hx
  startUp hp hm := by
    obtain ⟨hnone, -⟩ := h.startUp hp hm
    rw [hnone] at hr
    cases hr

/-- An owner that is another record stays when one record changes. -/
theorem owner_atKey (keys : (rs.map (fun r => r.key)).Nodup) {r : Record} (hr : r ∈ rs) {f : Record → Record}
    (other : owes r = false) {k : Pos} (h : ∃ q ∈ rs, q.key = k ∧ owes q = true) :
    ∃ q ∈ rs.map (atKey r.key f), q.key = k ∧ owes q = true := by
  obtain ⟨q, hq, hk, ho⟩ := h
  have hne : q.key ≠ r.key := by
    intro he
    rw [List.inj_on_of_nodup_map keys hq hr he] at ho
    exact absurd (other.symm.trans ho) (by simp)
  exact ⟨q, List.mem_map.2 ⟨q, hq, by simp [atKey, hne]⟩, hk, ho⟩

/-- The sums of the books after a change of one record. -/
theorem sums_atKey (keys : (rs.map (fun r => r.key)).Nodup) {r : Record} (hr : r ∈ rs) (f : Record → Record) :
    ((rs.map (atKey r.key f)).map Record.held).sum + r.held = (rs.map Record.held).sum + (f r).held ∧
      ((rs.map (atKey r.key f)).filter givenUp).length + (if givenUp r then 1 else 0) =
        (rs.filter givenUp).length + (if givenUp (f r) then 1 else 0) := by
  rw [givenUp_count, givenUp_count]
  exact ⟨sum_atKey keys hr f Record.held, sum_atKey keys hr f (fun r => if givenUp r then 1 else 0)⟩

theorem FundsLaw.claim (h : FundsLaw l au rs) {r : Record} {p : Nat} (hr : r ∈ rs) (opened : r.claim = .opened)
    (present : r.presence = .present) (since : r.beforeReset = false) (atK : r.awaits = .k) (running : runs l = true)
    (funds : au.canReserve p = true) :
    FundsLaw l { au with reserved := au.reserved + p, outstanding := au.outstanding + 1 }
      (rs.map (atKey r.key (fun r => { r with reserved := some p, claim := .claiming }))) := by
  refine h.move hr (by intro q; rfl) ⟨h.bank0, h.bank1⟩ (fun hp => ?_) (fun hp => ?_)
  · have hplaced := h.placed hp r hr
    simp only [fundsPlaced, Record.numberPlaced, opened, Bool.and_eq_true] at hplaced
    simp [fundsPlaced, Record.claimPlaced, Record.numberPlaced, present, since, atK, running, hplaced.1.2]
  · have hb := h.books hp
    obtain ⟨hheld, hcount⟩ := sums_atKey h.keys hr (fun r => { r with reserved := some p, claim := .claiming })
    have hungiven : givenUp r = false := by simp [givenUp, opened]
    have hnew : givenUp { r with reserved := some p, claim := .claiming } = true := by simp [givenUp]
    rw [held_of_ungiven hungiven, Record.held, if_pos hnew] at hheld
    simp only [hungiven, hnew, Option.getD_some, Bool.false_eq_true, if_false, if_true, Nat.add_zero] at hheld hcount
    have hfunds : p ≤ au.registers.descending - au.reserved - au.committed := by
      simp only [Account.canReserve, Account.available, Bool.and_eq_true] at funds
      exact of_decide_eq_true funds.1
    have hcovered := hb.covered
    refine ⟨?_, hb.committed, ?_, ?_, hb.continues, hb.once, fun i hi => ?_⟩
    · simp only [hheld, hb.reserved]
    · simp only [hcount, hb.outstanding]
      omega
    · change au.reserved + p + au.committed ≤ au.registers.descending
      omega
    · exact owner_atKey h.keys hr (by simp [owes, opened]) (hb.owners i hi)

theorem FundsLaw.release (h : FundsLaw l au rs) {r : Record} {f : Record → Record} (hr : r ∈ rs) (given : givenUp r = true)
    (ends : ∀ q, ClaimEnds (fun x => x = .ended ∨ x = .foreign) q (f q)) :
    FundsLaw l { au with reserved := au.reserved - r.reserved.getD 0, outstanding := au.outstanding - 1 }
      (rs.map (atKey r.key f)) := by
  have hend := ends r
  have hnew : givenUp (f r) = false := by obtain hc | hc := hend.claim <;> simp [givenUp, hc]
  refine h.move hr (fun q => (ends q).key) ⟨h.bank0, h.bank1⟩ (fun hp => ?_) (fun hp => ?_)
  · have hplaced := h.placed hp r hr
    simp only [fundsPlaced, Bool.and_eq_true] at hplaced
    have hnumber : (f r).numberPlaced = true := by
      have hnone : r.pieceNumber = none := by
        have hcases : r.claim = .claiming ∨ r.claim = .claimed := by simpa [givenUp] using given
        obtain hc | hc := hcases <;> simpa [Record.numberPlaced, hc] using hplaced.1.2
      obtain hc | hc := hend.claim <;> simp [Record.numberPlaced, hc, hend.pieceNumber, hnone]
    simp [fundsPlaced, Record.claimPlaced, hnew, hnumber, hend.presence]
    simpa using hplaced.2
  · have hb := h.books hp
    obtain ⟨hheld, hcount⟩ := sums_atKey h.keys hr f
    rw [held_of_ungiven hnew, Record.held, if_pos given] at hheld
    simp only [given, hnew, Bool.false_eq_true, if_false, if_true, Nat.add_zero] at hheld hcount
    have hcovered := hb.covered
    refine ⟨?_, hb.committed, ?_, ?_, hb.continues, hb.once, fun i hi => ?_⟩
    · simp only [hb.reserved]
      omega
    · simp only [hb.outstanding]
      omega
    · change au.reserved - r.reserved.getD 0 + au.committed ≤ au.registers.descending
      omega
    · refine owner_atKey h.keys hr ?_ (hb.owners i hi)
      have hcases : r.claim = .claiming ∨ r.claim = .claimed := by simpa [givenUp] using given
      obtain hc | hc := hcases <;> simp [owes, hc]

/-- A debit that joins the queue is the last of the pending ones. -/
theorem pendingDebits_append (au : Account) (i : DebitItem) (reserved committed : Nat) :
    ({ au with reserved := reserved, committed := committed, queue := au.queue ++ [i] } : Account).pendingDebits =
      au.pendingDebits ++ [i] := by
  simp [Account.pendingDebits]

theorem FundsLaw.commit (h : FundsLaw l au rs) {r : Record} {f : Record → Record} (hr : r ∈ rs)
    (claimed : r.claim = .claimed) (ends : ∀ q, ClaimEnds (fun x => x = .debitWait) q (f q)) :
    FundsLaw l
      { au with
        reserved := au.reserved - r.reserved.getD 0
        committed := au.committed + r.reserved.getD 0
        queue := au.queue ++ [{ key := r.key, amount := r.reserved.getD 0 }] }
      (rs.map (atKey r.key f)) := by
  have hend := ends r
  have given : givenUp r = true := by simp [givenUp, claimed]
  have hnew : givenUp (f r) = false := by simp [givenUp, hend.claim]
  have hnone : l.powered = true → r.pieceNumber = none ∧ r.presence = .present := by
    intro hp
    have hplaced := h.placed hp r hr
    simp [fundsPlaced, Record.claimPlaced, Record.numberPlaced, given, claimed] at hplaced
    exact ⟨hplaced.1.2, hplaced.1.1.1.1⟩
  refine h.move hr (fun q => (ends q).key) ⟨h.bank0, h.bank1⟩ (fun hp => ?_) (fun hp => ?_)
  · have hplaced := h.placed hp r hr
    simp only [fundsPlaced, Bool.and_eq_true] at hplaced
    simp [fundsPlaced, Record.claimPlaced, Record.numberPlaced, hnew, hend.claim, hend.pieceNumber, (hnone hp).1,
      hend.presence]
    simpa using hplaced.2
  · have hb := h.books hp
    obtain ⟨hheld, hcount⟩ := sums_atKey h.keys hr f
    rw [held_of_ungiven hnew, Record.held, if_pos given] at hheld
    simp only [given, hnew, Bool.false_eq_true, if_false, if_true, Nat.add_zero] at hheld hcount
    have hcovered := hb.covered
    have hreserved := hb.reserved
    have howes : owes r = false := by simp [owes, claimed]
    refine ⟨?_, ?_, ?_, ?_, hb.continues, ?_, fun i hi => ?_⟩
    · simp only [hb.reserved]
      omega
    · simp only [hb.committed, List.map_append, List.sum_append, List.map_cons, List.map_nil, List.sum_singleton]
      omega
    · simp only [hb.outstanding, List.length_append, List.length_singleton]
      omega
    · change au.reserved - r.reserved.getD 0 + (au.committed + r.reserved.getD 0) ≤ au.registers.descending
      omega
    · rw [pendingDebits_append, List.map_append]
      refine List.nodup_append'.2 ⟨hb.once, by simp, ?_⟩
      intro k hk hk'
      obtain rfl : k = r.key := by simpa using hk'
      obtain ⟨i, hi, hik⟩ := List.mem_map.1 hk
      obtain ⟨q, hq, hqk, ho⟩ := hb.owners i hi
      rw [List.inj_on_of_nodup_map h.keys hq hr (hqk.trans hik)] at ho
      exact absurd (howes.symm.trans ho) (by simp)
    · rw [pendingDebits_append] at hi
      obtain hi | hi := List.mem_append.1 hi
      · exact owner_atKey h.keys hr howes (hb.owners i hi)
      · obtain rfl := List.mem_singleton.1 hi
        refine ⟨f r, List.mem_map.2 ⟨r, hr, by simp [atKey]⟩, hend.key, ?_⟩
        simp [owes, hend.claim, hend.pieceNumber, hend.presence, hnone hp]

/-! ### Nonvolatile writes (07 R142 to R146) -/

/-- Another write is in flight, of the same pending debits. -/
theorem FundsLaw.write (h : FundsLaw l au rs) {v : Account} (banks : v.bank0 = au.bank0 ∧ v.bank1 = au.bank1)
    (same : v.reserved = au.reserved ∧ v.committed = au.committed ∧ v.outstanding = au.outstanding ∧
      v.registers = au.registers ∧ v.pendingDebits = au.pendingDebits)
    (committed : (v.queue.map (fun i => i.amount)).sum + amountInWrite v.write =
      (au.queue.map (fun i => i.amount)).sum + amountInWrite au.write)
    (count : v.queue.length + debitsInWrite v.write = au.queue.length + debitsInWrite au.write)
    (continues : l.powered = true → writeContinues v = true) (started : l.powered = true → l.mode ≠ none) :
    FundsLaw l v rs := by
  obtain ⟨hreserved, hcommitted, houtstanding, hregisters, hpending⟩ := same
  refine ⟨by rw [banks.1]; exact h.bank0, by rw [banks.2]; exact h.bank1, h.keys, fun hp => ?_, h.placed,
    fun hp hm => absurd hm (started hp)⟩
  have hb := h.books hp
  refine ⟨hreserved.trans hb.reserved, ?_, ?_, ?_, continues hp, by rw [hpending]; exact hb.once,
    by rw [hpending]; exact hb.owners⟩
  · rw [hcommitted, hb.committed, committed]
  · rw [houtstanding, hb.outstanding, Nat.add_assoc, Nat.add_assoc, count]
  · rw [hreserved, hcommitted, hregisters]
    exact hb.covered

theorem FundsLaw.debitStarts (h : FundsLaw l au rs) {item : DebitItem} {rest : List DebitItem} (idle : au.write = none)
    (front : au.queue = item :: rest) :
    FundsLaw l { au with queue := rest, write := some (.debit item (debitSet au item.amount)) } rs := by
  refine h.write ⟨rfl, rfl⟩ ⟨rfl, rfl, rfl, rfl, ?_⟩ ?_ ?_ (fun hp => ?_) (fun hp hm => ?_)
  · simp [Account.pendingDebits, idle, front]
  · simp [idle, front, amountInWrite, Nat.add_comm]
  · simp [idle, front, debitsInWrite]
  · have hb := h.books hp
    have hamount : item.amount ≤ au.registers.descending := by
      have hcommitted := hb.committed
      have hcovered := hb.covered
      simp only [front, List.map_cons, List.sum_cons] at hcommitted
      omega
    have hbalance := registers_balanced h.bank0 h.bank1
    simp only [NvSet.balanced, beq_iff_eq] at hbalance
    change (NvSet.balanced (debitSet au item.amount) &&
      (debitSet au item.amount).descending + item.amount == au.registers.descending) = true
    simp only [NvSet.balanced, debitSet, Bool.and_eq_true, beq_iff_eq]
    omega
  · have hempty := (h.startUp hp hm).2.1
    simp [front] at hempty

theorem FundsLaw.creditStarts (h : FundsLaw l au rs) (idle : au.write = none) (mode : l.mode ≠ none) (x : Nat) :
    FundsLaw l { au with write := some (.credit (creditSet au x)) } rs := by
  refine h.write ⟨rfl, rfl⟩ ⟨rfl, rfl, rfl, rfl, ?_⟩ ?_ ?_ (fun hp => ?_) (fun _ => mode)
  · simp [Account.pendingDebits, idle]
  · simp [idle, amountInWrite]
  · simp [idle, debitsInWrite]
  · have hbalance := registers_balanced h.bank0 h.bank1
    simp only [NvSet.balanced, beq_iff_eq] at hbalance
    have hset : (creditSet au x).balanced = true := by
      simp only [NvSet.balanced, creditSet, beq_iff_eq]
      omega
    have hmore : au.registers.descending ≤ (creditSet au x).descending := Nat.le_add_right _ _
    exact Bool.and_eq_true_iff.2 ⟨hset, decide_eq_true hmore⟩

theorem completeWrite_registers (set : NvSet) (au : Account) :
    (completeWrite set au).registers = if au.faulted then NvSet.blank else set := by
  unfold completeWrite Account.registers
  cases au.current <;> rfl

theorem completeWrite_banks {set : NvSet} {au : Account} (balanced : set.balanced = true)
    (h0 : bankBalanced au.bank0 = true) (h1 : bankBalanced au.bank1 = true) :
    bankBalanced (completeWrite set au).bank0 = true ∧ bankBalanced (completeWrite set au).bank1 = true := by
  unfold completeWrite
  cases au.current
  · exact ⟨h0, balanced⟩
  · exact ⟨balanced, h1⟩

theorem completeWrite_books (set : NvSet) (au : Account) :
    (completeWrite set au).reserved = au.reserved ∧ (completeWrite set au).committed = au.committed ∧
      (completeWrite set au).outstanding = au.outstanding ∧ (completeWrite set au).queue = au.queue ∧
      (completeWrite set au).write = none := by
  unfold completeWrite
  cases au.current <;> exact ⟨rfl, rfl, rfl, rfl, rfl⟩

theorem FundsLaw.creditDone (h : FundsLaw l au rs) {set : NvSet} (powered : l.powered = true)
    (inWrite : au.write = some (.credit set)) : FundsLaw l (completeWrite set au) rs := by
  have hb := h.books powered
  have hcontinues := hb.continues
  simp only [writeContinues, inWrite, Bool.and_eq_true, decide_eq_true_eq] at hcontinues
  obtain ⟨hbalanced, hmore⟩ := hcontinues
  obtain ⟨h0, h1⟩ := completeWrite_banks hbalanced h.bank0 h.bank1
  obtain ⟨hreserved, hcommitted, houtstanding, hqueue, hwrite⟩ := completeWrite_books set au
  have hpending : (completeWrite set au).pendingDebits = au.pendingDebits := by
    simp [Account.pendingDebits, hqueue, hwrite, inWrite]
  refine ⟨h0, h1, h.keys, fun hp => ⟨hreserved.trans hb.reserved, ?_, ?_, ?_, ?_, ?_, ?_⟩, h.placed, fun hp hm => ?_⟩
  · rw [hcommitted, hb.committed, hqueue, hwrite, inWrite]
    rfl
  · rw [houtstanding, hb.outstanding, hqueue, hwrite, inWrite]
    rfl
  · rw [hreserved, hcommitted, completeWrite_registers]
    have hcovered := hb.covered
    unfold Account.registers at hcovered hmore
    split
    · rename_i hf
      simpa only [hf, if_true] using hcovered
    · rename_i hf
      simp only [hf, Bool.false_eq_true, if_false] at hcovered hmore
      exact hcovered.trans hmore
  · simp [writeContinues, hwrite]
  · rw [hpending]
    exact hb.once
  · rw [hpending]
    exact hb.owners
  · have hempty := (h.startUp hp hm).2.2
    simp [inWrite] at hempty

theorem FundsLaw.debitDone (h : FundsLaw l au rs) {item : DebitItem} {set : NvSet} (powered : l.powered = true)
    (inWrite : au.write = some (.debit item set)) (n : Nat) :
    FundsLaw l (bookDebit item set au) (rs.map (atKey item.key (debitedRecord n))) := by
  have hb := h.books powered
  have hcontinues := hb.continues
  simp only [writeContinues, inWrite, Bool.and_eq_true, beq_iff_eq] at hcontinues
  obtain ⟨hbalanced, hmoved⟩ := hcontinues
  obtain ⟨h0, h1⟩ := completeWrite_banks hbalanced h.bank0 h.bank1
  obtain ⟨hreserved, hcommitted, houtstanding, hqueue, hwrite⟩ := completeWrite_books set au
  have hpending : au.pendingDebits = item :: au.queue := by simp [Account.pendingDebits, inWrite]
  have hrest : (bookDebit item set au).pendingDebits = au.queue := by
    simp [bookDebit, Account.pendingDebits, hqueue, hwrite]
  obtain ⟨r, hr, hrk, hro⟩ := hb.owners item (by simp [hpending])
  have hwait : r.claim = .debitWait := by
    simp only [owes, Bool.and_eq_true, beq_iff_eq] at hro
    exact hro.1.1
  have hungiven : givenUp r = false := by simp [givenUp, hwait]
  have hnew : givenUp (debitedRecord n r) = false := by
    unfold debitedRecord givenUp
    dsimp only
    split <;> rfl
  have honce := hb.once
  rw [hpending, List.map_cons, List.nodup_cons] at honce
  rw [← hrk]
  obtain ⟨hheld, hcount⟩ := sums_atKey h.keys hr (debitedRecord n)
  rw [held_of_ungiven hungiven, held_of_ungiven hnew] at hheld
  simp only [hungiven, hnew, Bool.false_eq_true, if_false, Nat.add_zero] at hheld hcount
  have hplaced : fundsPlaced (runs l) (debitedRecord n r) = true := by
    have hp := h.placed powered r hr
    simp only [fundsPlaced, Bool.and_eq_true] at hp
    have hnumber : (debitedRecord n r).numberPlaced = true := by
      cases ho : r.outcome <;> simp [debitedRecord, Record.numberPlaced, ho]
    have hclaim : (debitedRecord n r).claimPlaced = true := by simp [Record.claimPlaced, hnew]
    simp only [fundsPlaced, Bool.and_eq_true]
    exact ⟨⟨hclaim, hnumber⟩, hp.2⟩
  have hcovered := hb.covered
  have hsum := hb.committed
  have hnumber := hb.outstanding
  simp only [inWrite, amountInWrite, debitsInWrite] at hsum hnumber
  refine h.move hr (by intro q; rfl) ⟨h0, h1⟩ (fun _ => hplaced) (fun _ => ⟨?_, ?_, ?_, ?_, ?_, ?_, fun i hi => ?_⟩)
  · exact (hreserved.trans hb.reserved).trans hheld.symm
  · change (completeWrite set au).committed - item.amount =
      ((completeWrite set au).queue.map (fun i => i.amount)).sum + amountInWrite (completeWrite set au).write
    rw [hcommitted, hqueue, hwrite, hsum]
    simp [amountInWrite]
  · change (completeWrite set au).outstanding - 1 =
      _ + (completeWrite set au).queue.length + debitsInWrite (completeWrite set au).write
    rw [houtstanding, hqueue, hwrite, hcount, hnumber]
    simp [debitsInWrite]
  · change (completeWrite set au).reserved + ((completeWrite set au).committed - item.amount) ≤
      (completeWrite set au).registers.descending
    rw [hreserved, hcommitted, completeWrite_registers]
    unfold Account.registers at hcovered hmoved
    split
    · rename_i hf
      simp only [hf, if_true] at hcovered
      omega
    · rename_i hf
      simp only [hf, Bool.false_eq_true, if_false] at hcovered hmoved
      omega
  · simp [writeContinues, bookDebit, hwrite]
  · rw [hrest]
    exact honce.2
  · rw [hrest] at hi
    obtain ⟨q, hq, hqk, ho⟩ := hb.owners i (by simp [hpending, hi])
    have hne : q.key ≠ r.key := fun he =>
      honce.1 (List.mem_map.2 ⟨i, hi, (hqk.symm.trans he).trans hrk⟩)
    exact ⟨q, List.mem_map.2 ⟨q, hq, by simp [atKey, hne]⟩, hqk, ho⟩

/-! ### HOLD entry and LINE RESET (02 Table 2-6, 07 R150) -/

/-- The records that a HOLD entry keeps hold no reservation, and every debit keeps its record. -/
theorem recordAtHold_books {running : Bool} {r : Record} (placed : fundsPlaced running r = true) :
    (∀ q, recordAtHold r = some q → fundsPlaced false q = true ∧ givenUp q = false) ∧
      (owes r = true → ∃ q, recordAtHold r = some q ∧ q.key = r.key ∧ owes q = true) := by
  cases hp : r.presence <;> cases hc : r.claim <;> cases ho : r.outcome <;> cases hn : r.pieceNumber <;>
    simp [recordAtHold, Record.debitedHere, fundsPlaced, Record.claimPlaced, Record.numberPlaced, givenUp, owes, hp, hc, ho,
      hn] at placed ⊢

theorem recordAtHold_key {r q : Record} (h : recordAtHold r = some q) : q.key = r.key := (recordAtHold_kept h).1

/-- The books of records that hold no reservation. -/
theorem BooksLaw.ungiven {qs : List Record} (ungiven : ∀ q ∈ qs, givenUp q = false) (h : BooksLaw au rs)
    (owners : ∀ i ∈ au.pendingDebits, ∃ q ∈ qs, q.key = i.key ∧ owes q = true) :
    BooksLaw
      { au with
        reserved := au.reserved - (rs.map Record.held).sum, outstanding := au.outstanding - (rs.filter givenUp).length }
      qs := by
  have hheld : (qs.map Record.held).sum = 0 :=
    List.sum_eq_zero fun n hn => by
      obtain ⟨q, hq, rfl⟩ := List.mem_map.1 hn
      exact held_of_ungiven (ungiven q hq)
  have hcount : qs.filter givenUp = [] := List.filter_eq_nil_iff.2 fun q hq => by simp [ungiven q hq]
  have hcovered := h.covered
  refine ⟨?_, h.committed, ?_, ?_, h.continues, h.once, owners⟩
  · rw [hheld]
    simp [h.reserved]
  · rw [hcount]
    have := h.outstanding
    simp only [List.length_nil]
    omega
  · change au.reserved - _ + au.committed ≤ au.registers.descending
    omega

/-- The reservations are released, and the records that HOLD entry keeps stay. -/
theorem FundsLaw.hold (h : FundsLaw l au rs) {m : Loader} (power : m.powered = l.powered) (mode : m.mode ≠ none) :
    FundsLaw m
      { au with
        reserved := au.reserved - (rs.map Record.held).sum, outstanding := au.outstanding - (rs.filter givenUp).length }
      (rs.filterMap recordAtHold) := by
  have hkept : m.powered = true → ∀ q ∈ rs.filterMap recordAtHold, fundsPlaced false q = true ∧ givenUp q = false := by
    intro hp q hq
    obtain ⟨r, hr, he⟩ := List.mem_filterMap.1 hq
    exact (recordAtHold_books (h.placed (power ▸ hp) r hr)).1 q he
  refine ⟨h.bank0, h.bank1, ?_, fun hp => ?_, fun hp q hq => ?_, fun _ hm => absurd hm mode⟩
  · refine (List.pairwise_map (R := (· ≠ ·))).2 (List.pairwise_filterMap.2 ?_)
    refine ((List.pairwise_map (R := (· ≠ ·))).1 h.keys).imp fun {a b} hab x hx y hy => ?_
    rw [recordAtHold_key hx, recordAtHold_key hy]
    exact hab
  · have hb := h.books (power ▸ hp)
    refine hb.ungiven (fun q hq => (hkept hp q hq).2) (fun i hi => ?_)
    obtain ⟨r, hr, hk, ho⟩ := hb.owners i hi
    obtain ⟨q, hq, hqk, hqo⟩ := (recordAtHold_books (h.placed (power ▸ hp) r hr)).2 ho
    exact ⟨q, List.mem_filterMap.2 ⟨r, hr, hq⟩, hqk.trans hk, hqo⟩
  · have hplaced := (hkept hp q hq).1
    simp only [fundsPlaced, Bool.and_eq_true, Bool.or_eq_true] at hplaced ⊢
    exact ⟨hplaced.1, .inr (hplaced.2.resolve_left (by simp))⟩

/-- The funds law asks nothing of the mode of records that are all EXITED. -/
theorem FundsLaw.mode (h : FundsLaw l au rs) {m : Loader} (power : m.powered = l.powered) (mode : m.mode ≠ none)
    (exited : m.powered = true → ∀ r ∈ rs, r.presence = .exited) : FundsLaw m au rs where
  bank0 := h.bank0
  bank1 := h.bank1
  keys := h.keys
  books hp := h.books (power ▸ hp)
  placed hp r hr := by
    have hplaced := h.placed (power ▸ hp) r hr
    simp only [fundsPlaced, Bool.and_eq_true, Bool.or_eq_true] at hplaced ⊢
    exact ⟨hplaced.1, .inr (by simp [exited hp r hr])⟩
  startUp _ hm := absurd hm mode

/-- An EXITED record holds no reservation, and may leave its epoch. -/
theorem keepsBooks_beforeReset {running : Bool} {r : Record} (exited : r.presence = .exited) :
    keepsBooks running r { r with beforeReset := true } := by
  intro hplaced
  have hungiven : givenUp r = false := by
    by_contra hg
    simp [fundsPlaced, Record.claimPlaced, hg, exited] at hplaced
  refine keepsBooks_ungiven (fun _ => hungiven) hungiven (fun hp => ?_) (fun hp => hp) (fun ho => ho) hplaced
  simp only [fundsPlaced, Bool.and_eq_true] at hp
  exact hp.1.2

/-- What a LINE RESET leaves of the books and the records. -/
theorem FundsLaw.reset {s : State} (h : FundsLaw s.loader s.au s.table.records) (service : s.inService = true) :
    FundsLaw (resetBlocks s).loader (resetBlocks s).au (resetBlocks s).table.records := by
  have hmode : s.loader.mode ≠ none := fun hm => by simp [State.inService, hm] at service
  have hbefore : FundsLaw (resetBlocks s).loader (resetBlocks s).au (tableAtReset s).records ∧
      ((resetBlocks s).loader.powered = true → ∀ r ∈ (tableAtReset s).records, r.presence = .exited) := by
    change FundsLaw { s.loader with mode := some .running, reason := .none } (if s.running then releasedAu s else s.au)
      (tableAtReset s).records ∧ (s.loader.powered = true → _)
    unfold tableAtReset
    split
    · refine ⟨h.hold rfl (by simp), fun _ q hq => ?_⟩
      obtain ⟨r, -, he⟩ := List.mem_filterMap.1 hq
      exact (recordAtHold_kept he).2.1
    · rename_i hrun
      have hexited : s.loader.powered = true → ∀ r ∈ s.table.records, r.presence = .exited := by
        intro hp r hr
        have hplaced := h.placed hp r hr
        simp only [fundsPlaced, Bool.and_eq_true, Bool.or_eq_true, beq_iff_eq] at hplaced
        exact hplaced.2.resolve_left hrun
      exact ⟨h.mode rfl (by simp) hexited, hexited⟩
  obtain ⟨hlaw, hexited⟩ := hbefore
  by_cases hp : s.loader.powered = true
  · have hexited := hexited hp
    have hfilter : (tableAtReset s).records.filter (fun r => r.presence == .exited) = (tableAtReset s).records :=
      List.filter_eq_self.2 fun r hr => by simp [hexited r hr]
    refine FundsLaw.perm ?_ (sortByKey_perm _ _)
    rw [hfilter]
    exact hlaw.map (fun _ => rfl) fun r hr => keepsBooks_beforeReset (hexited r hr)
  · refine ⟨hlaw.bank0, hlaw.bank1, ?_, fun hon => absurd hon hp, fun hon => absurd hon hp, fun hon => absurd hon hp⟩
    refine (((sortByKey_perm _ _).map _).nodup_iff).2 ?_
    rw [List.map_map]
    exact hlaw.keys.sublist (List.filter_sublist.map _)

/-! ### Power (07 R136, R151) -/

/-- A cut write leaves its bank with the balanced new set, or with none. -/
theorem cutWrite_balanced {holdUp : Bool} (h0 : bankBalanced au.bank0 = true) (h1 : bankBalanced au.bank1 = true)
    (continues : writeContinues au = true) :
    bankBalanced (cutWrite holdUp au).bank0 = true ∧ bankBalanced (cutWrite holdUp au).bank1 = true := by
  have hset : ∀ set : NvSet, set.balanced = true → bankBalanced (if holdUp then some set else none) = true := by
    intro set hs
    cases holdUp
    · rfl
    · exact hs
  unfold cutWrite
  unfold writeContinues at continues
  split
  · exact ⟨h0, h1⟩
  · rename_i w hw
    rw [hw] at continues
    cases w with
    | debit item set =>
      have hbalanced := hset set (Bool.and_eq_true_iff.1 continues).1
      cases au.current
      · exact ⟨h0, hbalanced⟩
      · exact ⟨hbalanced, h1⟩
    | credit set =>
      have hbalanced := hset set (Bool.and_eq_true_iff.1 continues).1
      cases au.current
      · exact ⟨h0, hbalanced⟩
      · exact ⟨hbalanced, h1⟩

/-! ### Every command -/

/-- The funds law of a state. -/
def fundsLaw (u : State) : Prop := FundsLaw u.loader u.au u.table.records

theorem keptByAll_fundsLaw (c : Instr) : KeptByAll c fundsLaw where
  change s f hf h := h.map hf.key fun r hr => hf.books h.keys r hr
  remove s k hgo h := h.filter fun r hr hk => hgo h.keys r hr (by simpa using hk)
  insert s r running _ away claim number h := by
    refine FundsLaw.perm (h.cons running (fun q hq => ?_) claim number) (insertByKey_perm _ _ _)
    exact key_ne_of_apart (apart_of_not_within (away q hq))
  claim s r p _ hr opened present since atK eligible funds h := by
    rw [claimed_eq]
    refine FundsLaw.claim h hr opened present since atK ?_ funds
    simp only [State.eligible, Bool.and_eq_true] at eligible
    exact eligible.1
  release s r f hr given ends h := FundsLaw.release h (hr fun u hu => FundsLaw.keys hu) given ends
  commit s r f hr claimed ends h := FundsLaw.commit h hr claimed ends
  debitStarts s item rest idle front h := FundsLaw.debitStarts h idle front
  hold s why _ _ h := FundsLaw.hold h rfl (by simp)
  forward s _ h := FundsLaw.perm h (sortByKey_perm _ _)
  backward s _ h := FundsLaw.perm h (sortByKey_perm _ _)
  reset s _ service h := FundsLaw.reset h service
  powerDown s holdUp power powered h := by
    obtain ⟨n, t, -, -, he⟩ := powerDown_eq power holdUp s
    rw [he]
    obtain ⟨h0, h1⟩ := cutWrite_balanced (holdUp := holdUp) h.bank0 h.bank1 (h.books powered).continues
    exact ⟨h0, h1, h.keys, fun hp => by simp at hp, fun hp => by simp at hp, fun hp => by simp at hp⟩
  powerUp s _ h := by
    refine ⟨h.bank0, h.bank1, List.nodup_nil, fun _ => ⟨rfl, rfl, rfl, Nat.zero_le _, rfl, List.nodup_nil, ?_⟩, ?_, ?_⟩
    · simp [powerUp, State.reset, Account.pendingDebits]
    · simp [powerUp, State.reset]
    · simp [powerUp, State.reset]
  startUp s t _ ht h := by
    obtain ⟨hpowered, hmode⟩ := (inStartUp_iff s).1 ht.startUp
    obtain ⟨hrecords, hqueue, hwrite⟩ := h.startUp hpowered hmode
    have hb := h.books hpowered
    obtain ⟨current, faulted, hau⟩ := ht.books
    have htable : t.table.records = [] := by rw [ht.frame.1, hrecords]
    have hreserved : s.au.reserved = 0 := by simpa [hrecords] using hb.reserved
    have hcommitted : s.au.committed = 0 := by simpa [hqueue, hwrite, amountInWrite] using hb.committed
    have houtstanding : s.au.outstanding = 0 := by simpa [hrecords, hqueue, hwrite, debitsInWrite] using hb.outstanding
    unfold fundsLaw
    rw [htable, hau]
    refine ⟨h.bank0, h.bank1, List.nodup_nil, fun _ => ⟨?_, ?_, ?_, ?_, ?_, ?_, ?_⟩, by simp, fun _ _ => ⟨rfl, hqueue, hwrite⟩⟩
    · simpa using hreserved
    · simpa [hqueue, hwrite, amountInWrite] using hcommitted
    · simpa [hqueue, hwrite, debitsInWrite] using houtstanding
    · simp [hreserved, hcommitted]
    · simp [writeContinues, hwrite]
    · simp [Account.pendingDebits, hqueue, hwrite]
    · simp [Account.pendingDebits, hqueue, hwrite]
  debitDone s item set _ powered inWrite h := FundsLaw.debitDone h powered inWrite _
  creditDone s set _ powered inWrite h := FundsLaw.creditDone h powered inWrite
  creditStarts s x _ mode idle _ h := FundsLaw.creditStarts h idle mode x

/-- Settles O3: the books move together with the records, a write continues the registers it starts from, and what a power-on
finds balances. -/
theorem fundsStaySound : Obligations.FundsStaySound := fun s t sound next =>
  (fundsSound_iff t).2 (step_kept keptByAll_fundsLaw (fun _ _ h => h) ((fundsSound_iff s).1 sound) next)

end Sys2Proof.Laws
end

section
/-! PROOFS. When a record becomes CLAIMING (06 R106), and what a forward step changes in every powered state (01 R1 to R12). -/

namespace Sys2Proof.Laws

open Sys2Proof.Machine

/-! ### CLAIMING records (06 R106, R107) -/

/-- Every CLAIMING record was CLAIMING in a state, or the station was eligible. -/
def claimsFrom (s : State) (eligible : Prop) (u : State) : Prop :=
  ∀ r ∈ u.table.records, r.claim = .claiming → (∃ q ∈ s.table.records, q.key = r.key ∧ q.claim = .claiming) ∨ eligible

variable {c : Instr} {s : State} {eligible : Prop}

/-- Every CLAIMING record comes from one of the same key. -/
theorem claimsFrom_of {u v : State} (h : claimsFrom s eligible u)
    (from_ : ∀ r ∈ v.table.records, r.claim = .claiming → ∃ q ∈ u.table.records, q.key = r.key ∧ q.claim = .claiming) :
    claimsFrom s eligible v := by
  intro r hr hc
  obtain ⟨q, hq, hk, hqc⟩ := from_ r hr hc
  rw [← hk]
  exact h q hq hqc

theorem claimsFrom_subset {u v : State} (h : claimsFrom s eligible u) (sub : ∀ r ∈ v.table.records, r ∈ u.table.records) :
    claimsFrom s eligible v := fun r hr => h r (sub r hr)

/-- One record changes to a phase that is not CLAIMING. -/
theorem claimsFrom_atKey {u v : State} {k : Pos} {f : Record → Record} (h : claimsFrom s eligible u)
    (notClaiming : ∀ r, (f r).claim ≠ .claiming) (table : v.table.records = u.table.records.map (atKey k f)) :
    claimsFrom s eligible v := by
  refine claimsFrom_of h fun r hr hc => ?_
  rw [table] at hr
  obtain ⟨q, hq, rfl⟩ := List.mem_map.1 hr
  unfold atKey at hc ⊢
  split at hc
  · exact absurd hc (notClaiming q)
  · rename_i hk
    rw [if_neg hk]
    exact ⟨q, hq, rfl, hc⟩

/-- A record that HOLD entry keeps is CLAIMING only if it was. -/
theorem recordAtHold_claiming {r q : Record} (h : recordAtHold r = some q) (hc : q.claim = .claiming) :
    r.claim = .claiming := by
  cases hp : r.presence <;> cases hr : r.claim <;> simp_all [recordAtHold] <;> grind

theorem kept_claimsFrom {Q : State → Prop} (hQ : Kept c Q)
    (source : ∀ u, (∃ a b, c = .forwardStep a b) → Q u → u.eligible = true → eligible) :
    Kept c (fun u => Q u ∧ claimsFrom s eligible u) where
  free u n h := ⟨hQ.free u n h.1, h.2⟩
  ip u v h := ⟨hQ.ip u v h.1, h.2⟩
  pins u v h := ⟨hQ.pins u v h.1, h.2⟩
  wu u v hv h := ⟨hQ.wu u v hv h.1, h.2⟩
  cc u v hb hv h := ⟨hQ.cc u v hb hv h.1, h.2⟩
  inhibit u v hb hv h := ⟨hQ.inhibit u v hb hv h.1, h.2⟩
  rater u v hv h := ⟨hQ.rater u v hv h.1, h.2⟩
  tariff u v hv h := ⟨hQ.tariff u v hv h.1, h.2⟩
  link u v hv h := ⟨hQ.link u v hv h.1, h.2⟩
  lpu u v hv h := ⟨hQ.lpu u v hv h.1, h.2⟩
  clearanceDropped u q h1 h2 h3 h := ⟨hQ.clearanceDropped u q h1 h2 h3 h.1, h.2⟩
  horizonCleared u q h1 h2 h3 h := ⟨hQ.horizonCleared u q h1 h2 h3 h.1, h.2⟩
  horizonHeld u h1 h2 h := ⟨hQ.horizonHeld u h1 h2 h.1, h.2⟩
  horizonMoved u k q h1 h := ⟨hQ.horizonMoved u k q h1 h.1, h.2⟩
  change u f hf h := by
    refine ⟨hQ.change u f hf h.1, claimsFrom_of h.2 fun r hr hc => ?_⟩
    obtain ⟨q, hq, rfl⟩ := List.mem_map.1 hr
    obtain ⟨x, hx, hk, hxc⟩ := hf.claiming q hq hc
    exact ⟨x, hx, hk.trans (hf.key q).symm, hxc⟩
  remove u k hgo h := ⟨hQ.remove u k hgo h.1, claimsFrom_subset h.2 fun r hr => List.mem_of_mem_filter hr⟩
  insert u r running room away claim number h := by
    refine ⟨hQ.insert u r running room away claim number h.1, fun q hq hc => ?_⟩
    obtain rfl | hq := List.mem_cons.1 ((insertByKey_perm _ _ _).mem_iff.1 hq)
    · obtain hcl | hcl := claim <;> rw [hcl] at hc <;> cases hc
    · exact h.2 q hq hc
  claim u r p forward hr opened present since atK heligible funds h :=
    ⟨hQ.claim u r p forward hr opened present since atK heligible funds h.1,
      fun _ _ _ => .inr (source u forward h.1 heligible)⟩
  release u r f hr given ends h := by
    refine ⟨hQ.release u r f (fun keys => hr fun v hv => keys v hv.1) given ends h.1,
      claimsFrom_atKey (k := r.key) (f := f) h.2 (fun q => ?_) rfl⟩
    obtain hc | hc := (ends q).claim <;> simp [hc]
  commit u r f hr claimed ends h :=
    ⟨hQ.commit u r f hr claimed ends h.1,
      claimsFrom_atKey (k := r.key) (f := f) h.2 (fun q => by simp [(ends q).claim]) rfl⟩
  debitStarts u item rest idle front h := ⟨hQ.debitStarts u item rest idle front h.1, h.2⟩
  hold u why may running h := by
    refine ⟨hQ.hold u why may running h.1, claimsFrom_of h.2 fun r hr hc => ?_⟩
    obtain ⟨q, hq, he⟩ := List.mem_filterMap.1 hr
    exact ⟨q, hq, (recordAtHold_key he).symm, recordAtHold_claiming he hc⟩

/-- What keeps everything. -/
theorem kept_true (c : Instr) : Kept c (fun _ => True) := {}

/-- No command but a forward step makes a record CLAIMING. -/
theorem keptByAll_claimsFrom (notForward : ¬ ∃ a b, c = .forwardStep a b) :
    KeptByAll c (fun u => True ∧ claimsFrom s False u) where
  toKept := kept_claimsFrom (kept_true c) fun _ forward => absurd forward notForward
  forward _ forward := absurd forward notForward
  backward u _ h := ⟨trivial, claimsFrom_subset h.2 fun r hr => (sortByKey_perm _ _).mem_iff.1 hr⟩
  reset u _ _ h := by
    refine ⟨trivial, claimsFrom_of h.2 fun r hr hc => ?_⟩
    obtain ⟨q, hq, rfl⟩ := List.mem_map.1 ((sortByKey_perm _ _).mem_iff.1 hr)
    have hq := List.mem_of_mem_filter hq
    unfold tableAtReset at hq
    split at hq
    · obtain ⟨x, hx, he⟩ := List.mem_filterMap.1 hq
      exact ⟨x, hx, (recordAtHold_key he).symm, recordAtHold_claiming he hc⟩
    · exact ⟨q, hq, rfl, hc⟩
  powerDown u holdUp power _ h := by
    obtain ⟨n, t, -, -, he⟩ := powerDown_eq power holdUp u
    rw [he]
    exact h
  powerUp _ _ _ := ⟨trivial, fun r hr => by simp [powerUp, State.reset] at hr⟩
  startUp u t _ ht h := ⟨trivial, claimsFrom_subset h.2 fun r hr => by rwa [ht.frame.1] at hr⟩
  debitDone u item set _ _ _ h := by
    refine ⟨trivial, claimsFrom_atKey (k := item.key) (f := debitedRecord _) h.2 (fun q => ?_) rfl⟩
    unfold debitedRecord
    dsimp only
    split <;> simp

/-- What a forward step keeps of the mode, the inhibit set and the clearance, once the belt has moved. -/
structure StepFrom (s u : State) : Prop where
  linePos : u.lpu.linePos = s.lpu.linePos + 1#24
  running : u.running = true → s.running = true
  inhibit : { u.inhibit with blind := false } = { s.inhibit with blind := false }
  clearance : u.lpu.clearance = s.lpu.clearance ∨ u.lpu.clearance = none
  blind : u.inhibit.blind = s.inhibit.blind ∨
    ∃ q, s.lpu.clearance = some q ∧ atOrPast (s.lpu.linePos + 1#24) q = true

theorem kept_stepFrom (belt : isBeltStep c = true) : Kept c (StepFrom s) where
  free _ _ h := { h with }
  ip _ _ h := { h with }
  pins _ _ h := { h with }
  wu _ _ _ h := { h with }
  cc _ _ hb := absurd (hb.symm.trans belt) (by simp)
  inhibit _ _ hb := absurd (hb.symm.trans belt) (by simp)
  rater _ _ _ h := { h with }
  tariff _ _ _ h := { h with }
  link _ _ _ h := { h with }
  lpu u v hv h := ⟨hv.linePos.trans h.linePos, h.running, h.inhibit, by
    rw [State.setLpu_lpu, hv.clearance]
    exact h.clearance, h.blind⟩
  clearanceDropped _ _ _ _ _ h := ⟨h.linePos, h.running, h.inhibit, .inr rfl, h.blind⟩
  horizonCleared u q hq reached _ h := by
    refine ⟨h.linePos, h.running, h.inhibit, .inr rfl, .inr ⟨q, ?_, by rw [← h.linePos]; exact reached⟩⟩
    obtain hc | hc := h.clearance
    · exact hc.symm.trans hq
    · rw [hc] at hq
      cases hq
  horizonHeld _ hb := absurd (hb.symm.trans belt) (by simp)
  horizonMoved _ _ _ hb := absurd (hb.symm.trans belt) (by simp)
  change _ _ _ h := { h with }
  remove _ _ _ h := { h with }
  insert _ _ _ _ _ _ _ h := { h with }
  claim _ _ _ _ _ _ _ _ _ _ _ h := { h with }
  release _ _ _ _ _ _ h := { h with }
  commit _ _ _ _ _ _ h := { h with }
  debitStarts _ _ _ _ _ h := { h with }
  hold _ _ _ _ h := ⟨h.linePos, by simp [State.running], h.inhibit, h.clearance, h.blind⟩

/-- Settles O13: a forward step claims with an empty inhibit set, from which it can have cleared BLIND alone, at the clearance;
every other command leaves CLAIMING records at most where they were. -/
theorem claimsNeedAnEligibleStation : Obligations.ClaimsNeedAnEligibleStation := by
  intro c s t next r hr hc
  by_cases hforward : ∃ a b, c = .forwardStep a b
  · let eligible : Prop := s.loader.mode = some .running ∧
      ({ s.inhibit with blind := false } : Inhibit).isEmpty = true ∧
      (s.inhibit.blind = true → ∃ q, s.lpu.clearance = some q ∧ atOrPast (s.lpu.linePos + 1#24) q = true)
    suffices hlaw : claimsFrom s eligible t by
      obtain h | h := hlaw r hr hc
      · exact .inl h
      · exact .inr ⟨hforward, h⟩
    obtain ⟨a, b, rfl⟩ := hforward
    have hkept : Kept (.forwardStep a b) (fun u => StepFrom s u ∧ claimsFrom s eligible u) := by
      refine kept_claimsFrom (kept_stepFrom rfl) fun u _ hu heligible => ?_
      simp only [State.eligible, Bool.and_eq_true] at heligible
      obtain ⟨hrun, hempty⟩ := heligible
      have hblind : u.inhibit.blind = false := by
        simp only [Inhibit.isEmpty, Bool.not_eq_true', Bool.or_eq_false_iff] at hempty
        exact hempty.1.1.2
      refine ⟨by simpa [State.running] using hu.running hrun, ?_, fun hb => ?_⟩
      · rw [← hu.inhibit, ← hblind]
        exact hempty
      · obtain h | h := hu.blind
        · exact absurd (hblind.symm.trans (h.trans hb)) (by simp)
        · exact h
    by_cases hpowered : s.loader.powered = true
    · have hbelt : StepFrom s (reorder (s.setLpu (lpuForward s.lpu))) := ⟨rfl, id, rfl, .inl rfl, .inl rfl⟩
      obtain ⟨u, hu, -, hP⟩ := forwardStep_kept hkept ⟨a, b, rfl⟩ a b hpowered
        ⟨hbelt, fun q hq hqc => .inl ⟨q, (sortByKey_perm _ _).mem_iff.1 hq, rfl, hqc⟩⟩
      rw [hu] at next
      cases next
      exact hP
    · simp only [exec, execForwardStep, hpowered, Bool.not_false, if_true] at next
      cases next
      exact fun q hq hqc => .inl ⟨q, hq, rfl, hqc⟩
  · obtain ⟨u, hu, -, hP⟩ := exec_kept (keptByAll_claimsFrom (s := s) hforward)
      ⟨trivial, fun q hq hqc => .inl ⟨q, hq, rfl, hqc⟩⟩
    rw [hu] at next
    cases next
    exact .inl ((hP r hr hc).resolve_right id)

/-! ### What a forward step never touches (01 R1 to R12) -/

/-- The state after a forward step beside the arrivals: the counters, and what no arrival touches. -/
structure SteppedFrom (s u : State) : Prop where
  lpu : u.lpu = { lpuForward s.lpu with entryOwner := u.lpu.entryOwner, clearance := u.lpu.clearance }
  config : u.loader.config = s.loader.config
  cc : u.cc = s.cc
  jobs : u.rater.jobs = s.rater.jobs
  slots : u.tariff.slot = s.tariff.slot
  areas : u.tariff.area = s.tariff.area
  zero : u.wu.zero = s.wu.zero
  registers : u.au.registers = s.au.registers

theorem kept_steppedFrom (a b : Bool) : Kept (.forwardStep a b) (SteppedFrom s) where
  free _ _ h := { h with }
  ip _ _ h := { h with }
  pins _ _ h := { h with }
  wu u v hv h := { h with zero := (hv rfl).trans h.zero }
  cc _ _ hb := absurd hb (by simp [isBeltStep])
  inhibit _ _ hb := absurd hb (by simp [isBeltStep])
  rater u v hv h := { h with jobs := (hv.jobs rfl).trans h.jobs }
  tariff u v hv h := { h with
    slots := (hv.slots rfl).trans h.slots
    areas := (hv.areas (by simp) (by simp)).trans h.areas }
  link _ _ _ h := { h with }
  lpu u v hv h := { h with lpu := by rw [State.setLpu_lpu, hv.belt rfl, h.lpu] }
  clearanceDropped u _ _ _ _ h := { h with lpu := by rw [State.setLpu_lpu, h.lpu] }
  horizonCleared u _ _ _ _ h := { h with lpu := by rw [State.setInhibit_lpu, State.setTable_lpu, State.setLpu_lpu, h.lpu] }
  horizonHeld _ hb := absurd hb (by simp [isBeltStep])
  horizonMoved _ _ _ hb := absurd hb (by simp [isBeltStep])
  change _ _ _ h := { h with }
  remove _ _ _ h := { h with }
  insert _ _ _ _ _ _ _ h := { h with }
  claim _ _ _ _ _ _ _ _ _ _ _ h := { h with }
  release _ _ _ _ _ _ h := { h with }
  commit _ _ _ _ _ _ h := { h with }
  debitStarts _ _ _ _ _ h := { h with }
  hold _ _ _ _ h := { h with }

theorem forwardStep_steppedFrom (a b : Bool) {s : State} (powered : s.loader.powered = true) :
    ∃ t, exec (.forwardStep a b) s = .next t ∧ SteppedFrom s t :=
  forwardStep_kept (kept_steppedFrom a b) ⟨a, b, rfl⟩ a b powered ⟨rfl, rfl, rfl, rfl, rfl, rfl, rfl, rfl⟩

end Sys2Proof.Laws
end

section
/-! PROOFS. The cells, the speed period, and the samples and readings of the platform (01 R9 to R16, 03). -/

namespace Sys2Proof.Laws
open Sys2Proof.Machine

theorem started_of_mode {s : State} {m : StationMode} (powered : s.loader.powered = true)
    (mode : s.loader.mode = some m) : s.started = true := by simp [State.started, powered, mode]

theorem running_of_mode {s : State} (mode : s.loader.mode = some .running) : s.running = true := by
  simp [State.running, mode]

theorem inService_of_running {s : State} (mode : s.loader.mode = some .running) : s.inService = true := by
  simp [State.inService, mode]

theorem running_eq_decide {s : State} {m : StationMode} (mode : s.loader.mode = some m) :
    s.running = decide (m = .running) := by
  cases m <;> simp [State.running, mode]

/-- Settles O27: the two cases of the station's service. -/
theorem speedPeriodDecidesOverspeed : Obligations.SpeedPeriodDecidesOverspeed := by
  intro s powered
  constructor
  all_goals
    intro service
    simp only [exec, execSpeedPeriodExpiry, powered, State.setLpu_inService, service, Bool.not_true, Bool.false_eq_true,
      ↓reduceIte]
    rfl

/-- Settles O30: the reading goes to the entry owner of a blocked cell, and to nobody else. -/
theorem gaugeRaisesTheThickness : Obligations.GaugeRaisesTheThickness := by
  constructor
  · intro s reading k powered service blocked owner
    simp [exec, execGaugeArrival, powered, service, blocked, owner, State.updateRecord, State.setTable]
  · rintro s reading (clear | noOwner)
    · simp [exec, execGaugeArrival, clear]
    · cases h : s.loader.powered && s.inService && s.lpu.entryBlocked <;> simp [exec, execGaugeArrival, h, noOwner]

/-- A state in which a sample meets an empty platform in RUNNING. -/
theorem sampleArrival_empty {s : State} {raw : BitVec 24} (powered : s.loader.powered = true)
    (mode : s.loader.mode = some .running) (none_present : ∀ r ∈ s.table.records, r.presence ≠ .present)
    (cell : s.lpu.entryBlocked = false ∨ s.lpu.entryOwner ≠ none) (guard : s.wu.guardPos = none) :
    exec (.sampleArrival raw) s = .next (emptySample raw.toInt s) := by
  have hattributed : attributedAt s.lpu.linePos s = none := by
    simp only [attributedAt, List.find?_eq_none]
    intro r hr
    simp [fullyOn, none_present r hr]
  have hempty : platformEmpty s = true := by
    simp only [platformEmpty, guard, Option.isNone_none, Bool.and_true, Bool.and_eq_true, List.all_eq_true]
    refine ⟨fun r hr => by simp [overlaps, none_present r hr], ?_⟩
    obtain clear | owned := cell
    · simp [clear]
    · simp [Option.isSome_iff_ne_none.2 owned]
  simp only [exec, execSampleArrival, powered, running_of_mode mode, hattributed, hempty, Bool.and_self, Bool.not_true,
    Bool.false_eq_true, ↓reduceIte]

/-- Settles O29: within the band the zero moves; out of it the count rises, and at its limit raises SCALE_FAILED. -/
theorem emptyPlatformTracksTheZero : Obligations.EmptyPlatformTracksTheZero := by
  refine ⟨fun s raw delta powered mode none_present cell guard hdelta => ?_, fun s raw mode => ?_⟩
  · subst hdelta
    rw [sampleArrival_empty powered mode none_present cell guard]
    refine ⟨fun hin => ?_, fun hout hbelow => ?_, fun hout hlimit => ?_⟩
    all_goals unfold emptySample
    · rw [if_neg (by simp [Nat.not_lt.2 hin]), trackZero, if_pos hin]
      rfl
    · have hcount : min (s.wu.zeroFaults + 1) s.loader.config.zeroFaultLimit = s.wu.zeroFaults + 1 := by omega
      rw [trackZero, if_neg (Nat.not_le.2 hout), hcount, if_neg (by simp [Nat.not_le.2 hbelow])]
      rfl
    · have hcount : min (s.wu.zeroFaults + 1) s.loader.config.zeroFaultLimit = s.loader.config.zeroFaultLimit := by omega
      rw [trackZero, if_neg (Nat.not_le.2 hout), hcount, if_pos (by simp [hout])]
      rfl
  · have hrun : s.running = false := by simpa [State.running] using mode
    simp only [exec, execSampleArrival, hrun, Bool.and_false, Bool.not_false, ↓reduceIte]

/-- Settles O25: the owner's record gets its length and exit target, which it does not await; without an owner the zero
guard is set in RUNNING. -/
theorem entryUnblockHandsTheLength : Obligations.EntryUnblockHandsTheLength := by
  constructor
  · intro s m k powered mode blocked owner notExit
    have hawaits : ((lengthGiven k s).record k).any (fun r => r.awaits == .exit) = false := by
      rw [Option.any_eq_false]
      intro q hq
      obtain ⟨hmem, hkey⟩ := record_mem hq
      obtain ⟨r, hr, rfl⟩ := List.mem_map.1 hmem
      by_cases hrk : r.key = k
      · simp [hrk, giveLength, notExit r hr hrk]
      · simp [hrk] at hkey
    rw [show exec .entryUnblock s = execEntryUnblock s from rfl,
      execEntryUnblock_owned (started_of_mode powered mode) blocked owner, hawaits]
    simp [lengthGiven, State.updateRecord, giveLength, pos, State.setTable, State.setLpu, State.setPins]
  · intro s m powered mode blocked owner
    change execEntryUnblock s = _
    unfold execEntryUnblock
    rw [if_neg (by simp [started_of_mode powered mode, blocked])]
    simp only [owner, State.setLpu_running, State.setPins_running, running_eq_decide mode, decide_eq_true_eq]
    by_cases hm : m = .running
    · rw [if_pos hm, if_pos hm]
      cases hguard : s.wu.guardPos with
      | none => simp [guardAfter, hguard, State.setLpu, State.setPins, State.setWu, pos]
      | some g =>
        simp only [hguard, guardAfter, State.setLpu, State.setPins, State.setWu]
        rfl
    · rw [if_neg hm, if_neg hm]
      simp [State.setLpu, State.setPins]

/-- The exit cell part of O26 (01 R12). -/
theorem exitCellBlock_clear {s : State} {m : StationMode} (powered : s.loader.powered = true)
    (mode : s.loader.mode = some m) (clear : s.lpu.exitBlocked = false) :
    exec .exitCellBlock s = .next
      { s with
        pins := { s.pins with cellEx := true }
        lpu := { s.lpu with exitBlocked := true, exitRun := 0 }
        table :=
          { s.table with
            records := s.table.records.map (fun r => if r.windowOpen then { r with exitSeen := true } else r) } } := by
  change execExitCellBlock s = _
  unfold execExitCellBlock
  rw [if_neg (by simp [started_of_mode powered mode, clear])]
  rfl

theorem exitCellUnblock_started {s : State} {m : StationMode} (powered : s.loader.powered = true)
    (mode : s.loader.mode = some m) :
    exec .exitCellUnblock s = .next
      { s with pins := { s.pins with cellEx := false }, lpu := { s.lpu with exitBlocked := false } } := by
  change execExitCellUnblock s = _
  unfold execExitCellUnblock
  rw [if_neg (by simp [started_of_mode powered mode])]
  rfl

end Sys2Proof.Laws
end

section
/-! PROOFS. A forward step on a table of at most one record: what is due, and what its arrival leaves (01 R5 to R8). -/

namespace Sys2Proof.Laws
open Sys2Proof.Machine

/-! ### The table of one record -/

/-- The state whose table holds one record. -/
def holding (r : Record) (s : State) : State := s.setTable { s.table with records := [r] }

@[simp] theorem holding_loader (r : Record) (s : State) : (holding r s).loader = s.loader := rfl
@[simp] theorem holding_lpu (r : Record) (s : State) : (holding r s).lpu = s.lpu := rfl
@[simp] theorem holding_records (r : Record) (s : State) : (holding r s).table.records = [r] := rfl
@[simp] theorem holding_horizon (r : Record) (s : State) : (holding r s).table.horizon = s.table.horizon := rfl
@[simp] theorem holding_wu (r : Record) (s : State) : (holding r s).wu = s.wu := rfl
@[simp] theorem holding_inhibit (r : Record) (s : State) : (holding r s).inhibit = s.inhibit := rfl
@[simp] theorem holding_tariff (r : Record) (s : State) : (holding r s).tariff = s.tariff := rfl
@[simp] theorem holding_rater (r : Record) (s : State) : (holding r s).rater = s.rater := rfl
@[simp] theorem holding_cc (r : Record) (s : State) : (holding r s).cc = s.cc := rfl
@[simp] theorem holding_au (r : Record) (s : State) : (holding r s).au = s.au := rfl
@[simp] theorem holding_ip (r : Record) (s : State) : (holding r s).ip = s.ip := rfl
@[simp] theorem holding_lc (r : Record) (s : State) : (holding r s).lc = s.lc := rfl
@[simp] theorem holding_pins (r : Record) (s : State) : (holding r s).pins = s.pins := rfl
@[simp] theorem holding_free (r : Record) (s : State) : (holding r s).free = s.free := rfl
@[simp] theorem holding_running (r : Record) (s : State) : (holding r s).running = s.running := rfl
@[simp] theorem holding_started (r : Record) (s : State) : (holding r s).started = s.started := rfl
@[simp] theorem holding_eligible (r : Record) (s : State) : (holding r s).eligible = s.eligible := rfl
@[simp] theorem holding_isTail (r : Record) (s : State) : (holding r s).isTail = s.isTail := rfl
@[simp] theorem holding_hasRoom (r : Record) (s : State) (n : Nat) : (holding r s).hasRoom n = s.hasRoom n := rfl

@[simp] theorem setAu_holding (r : Record) (s : State) (v : Account) :
    (holding r s).setAu v = holding r (s.setAu v) := rfl
@[simp] theorem setLc_holding (r : Record) (s : State) (v : Link) : (holding r s).setLc v = holding r (s.setLc v) := rfl
@[simp] theorem setIp_holding (r : Record) (s : State) (v : Printer) :
    (holding r s).setIp v = holding r (s.setIp v) := rfl
@[simp] theorem setPins_holding (r : Record) (s : State) (v : Pins) :
    (holding r s).setPins v = holding r (s.setPins v) := rfl
@[simp] theorem setRater_holding (r : Record) (s : State) (v : Rater) :
    (holding r s).setRater v = holding r (s.setRater v) := rfl
@[simp] theorem setTariff_holding (r : Record) (s : State) (v : Tariff) :
    (holding r s).setTariff v = holding r (s.setTariff v) := rfl
@[simp] theorem setInhibit_holding (r : Record) (s : State) (v : Inhibit) :
    (holding r s).setInhibit v = holding r (s.setInhibit v) := rfl
@[simp] theorem setLpu_holding (r : Record) (s : State) (v : Lpu) :
    (holding r s).setLpu v = holding r (s.setLpu v) := rfl

theorem holding_self {s : State} {r : Record} (h : s.table.records = [r]) : holding r s = s := by
  rw [holding, ← h]
  rfl

@[simp] theorem record_holding (r : Record) (s : State) : (holding r s).record r.key = some r := by
  simp [State.record]

theorem record_holding_of {r : Record} {k : Pos} (h : r.key = k) (s : State) : (holding r s).record k = some r := by
  simp [State.record, h]

theorem updateRecord_holding {r : Record} {k : Pos} (h : r.key = k) (s : State) (f : Record → Record) :
    (holding r s).updateRecord k f = holding (f r) s := by
  simp [State.updateRecord, holding, State.setTable, h]

theorem removeRecord_holding {r : Record} {k : Pos} (h : r.key = k) (s : State) (walk : s.rater.walk = none)
    (owner : s.lpu.entryOwner ≠ some k) :
    removeRecord k (holding r s) = s.setTable { s.table with records := [] } := by
  rw [removeRecord_eq]
  simp [detachWalk, walk, owner, h, holding, State.setTable]

theorem dueReports_holding {r : Record} (h : r.presence ≠ .exited) (s : State) : dueReports (holding r s) = [] := by
  simp [dueReports, h]

/-! ### Travels (01 R5, R6) -/

theorem precedes_travel (p : Pos) {m n : Nat} (h : m < n) (bound : n ≤ 8388607) :
    precedes (p + pos m) (p + pos n) = true := by
  have hsub : (p + pos n - (p + pos m)).toNat = n - m := by
    simp only [pos, BitVec.toNat_sub, BitVec.toNat_add, BitVec.toNat_ofNat]
    omega
  simp only [precedes, hsub, Bool.and_eq_true, decide_eq_true_eq]
  omega

@[simp] theorem atOrPast_self (p : Pos) : atOrPast p p = true := by simp [atOrPast, precedes]

theorem atOrPast_travel (p : Pos) {m n : Nat} (h : m < n) (bound : n ≤ 8388607) :
    atOrPast (p + pos m) (p + pos n) = false := by simp [atOrPast, precedes_travel p h bound]

theorem awaitedAt_of_travel {c : ConfigCopy} {r : Record} {p : Pos} {m : Nat} (sighted : r.sightPos = some p)
    (travel : r.awaits.travel c = some m) : awaitedAt c r = some (p + pos m) := by
  unfold awaitedAt
  cases h : r.awaits <;> simp_all [Target.travel]

theorem targetDue_awaited {c : ConfigCopy} {linePos t : Pos} {r : Record} (h : r.presence ≠ .noticed)
    (awaited : awaitedAt c r = some t) : targetDue c linePos r = atOrPast linePos t := by
  unfold targetDue
  cases hp : r.presence <;> simp_all

theorem targetDue_unset {c : ConfigCopy} {linePos : Pos} {r : Record} (h : r.presence ≠ .noticed)
    (unset : awaitedAt c r = none) : targetDue c linePos r = false := by
  unfold targetDue
  cases hp : r.presence <;> simp_all

/-- A sighted record does not reach a target whose travel the line position has not made. -/
theorem targetDue_ahead {c : ConfigCopy} {linePos p : Pos} {r : Record} {m n : Nat} (h : r.presence ≠ .noticed)
    (sighted : r.sightPos = some p) (here : linePos = p + pos m) (travel : r.awaits.travel c = some n) (ahead : m < n)
    (bound : n ≤ 8388607) : targetDue c linePos r = false := by
  rw [targetDue_awaited h (awaitedAt_of_travel sighted travel), here, atOrPast_travel p ahead bound]

/-! ### The step (01 R1) -/

/-- The counters of a forward step in a state without a zero guard whose table keeps its order. -/
theorem forwardStep_eq {a b : Bool} {s : State} (powered : s.loader.powered = true) (guard : s.wu.guardPos = none)
    (order : sortByKey (s.lpu.linePos + 1#24) s.table.records = s.table.records) :
    exec (.forwardStep a b) s =
      .next (portNext (stepEvents (stepFuel s.loader.config) (jammed (s.stepped a b)) (s.stepped a b))) := by
  have horder : reorder (s.stepped a b) = s.stepped a b := by
    change (s.stepped a b).setTable { s.table with records := sortByKey (s.lpu.linePos + 1#24) s.table.records } = _
    rw [order]
    rfl
  have hadvance : advanceBelt a b s = s.stepped a b := by
    change discardGuard (reorder (s.stepped a b)) = _
    rw [horder]
    unfold discardGuard
    rw [show (s.stepped a b).wu.guardPos = none from guard]
  change execForwardStep a b s = _
  unfold execForwardStep
  rw [if_neg (by simp [powered])]
  change Host.Outcome.next (portNext (stepEvents (stepFuel (advanceBelt a b s).loader.config)
    (jammed (advanceBelt a b s)) (advanceBelt a b s))) = _
  rw [hadvance]
  rfl

theorem jammed_clear {a b : Bool} {s : State} (entry : s.lpu.entryBlocked = false) (exit : s.lpu.exitBlocked = false) :
    jammed (s.stepped a b) = false := by
  change (cellJammed _ s.lpu.entryBlocked _ || cellJammed _ s.lpu.exitBlocked _) = false
  simp [cellJammed, entry, exit]

/-- One due event takes place first, and what is due after it follows. -/
theorem stepEvents_one {n : Nat} {jam : Bool} {s : State} {e : StepEvent} (due : dueEvents jam s = [e]) :
    stepEvents (n + 1) jam s = stepEvents n (jam && e != .jam) (doEvent e s) := by
  simp [stepEvents, due, drawIndex]

theorem stepFuel_eq (c : ConfigCopy) : stepFuel c = (Config.tablePlaces * (c.width + 8)) + 1 + 1 := rfl

theorem dueEvents_holding {r : Record} {s : State} (clearance : s.lpu.clearance = none) :
    dueEvents false (holding r s) = if targetDue s.loader.config s.lpu.linePos r then [.target r.key] else [] := by
  simp only [dueEvents, holding_lpu, clearance, holding_records, holding_loader]
  by_cases h : targetDue s.loader.config s.lpu.linePos r = true <;> simp [h]

theorem dueEvents_empty {s : State} (clearance : s.lpu.clearance = none) (records : s.table.records = []) :
    dueEvents false s = [] := by
  simp [dueEvents, clearance, records]

/-- A PRESENT record that the station hands its arrivals reaches the target it awaits. -/
theorem reachTarget_holding {r : Record} {s : State} (running : s.running = true) (present : r.presence = .present)
    (since : r.beforeReset = false) :
    reachTarget r.key (holding r s) =
      handArrival r.key r.awaits (holding { r with awaits := r.awaits.after s.loader.config.width } s) := by
  simp only [reachTarget, record_holding, present, holding_running, running, since, Bool.not_false, Bool.and_self,
    ↓reduceIte, holding_loader]
  rw [updateRecord_holding rfl]
  simp only [present, since]

/-! ### The tariff memory port after the step (04 R63) -/

theorem portNext_idle {s : State} (idle : s.portIdle) : portNext s = s := by
  obtain ⟨port, walk, writes, load⟩ := idle
  unfold portNext portTakes loadNext
  simp only [port, walk, writes, load, Option.isSome_none, Bool.false_eq_true, ↓reduceIte, List.find?_nil]
  split <;> rfl

theorem portNext_walk {s : State} (started : s.started = true) (port : s.tariff.port = none)
    (walk : s.rater.walk.isSome = true) : portNext s = s.setTariff { s.tariff with port := some .walkRead } := by
  simp [portNext, portTakes, started, port, walk]

/-! ### One arrival -/

/-- The belt of a RUNNING station on which a forward step brings nothing but arrivals. -/
structure BeltRuns (a b : Bool) (s : State) : Prop where
  powered : s.loader.powered = true
  mode : s.loader.mode = some .running
  calm : jammed (s.stepped a b) = false
  clearance : s.lpu.clearance = none
  guard : s.wu.guardPos = none

theorem State.beltClear.runs {s : State} (h : s.beltClear) (a b : Bool) : BeltRuns a b s :=
  let ⟨powered, mode, entry, exit, clearance, guard, _⟩ := h
  ⟨powered, mode, jammed_clear entry exit, clearance, guard⟩

/-- The only record reaches the target that it awaits, with the rest of the step's arrivals. -/
theorem forwardStep_reaches {a b : Bool} {s : State} {r : Record} (belt : BeltRuns a b s)
    (records : s.table.records = [r]) (due : targetDue s.loader.config (s.lpu.linePos + 1#24) r = true) :
    exec (.forwardStep a b) s = .next (portNext
      (stepEvents (Config.tablePlaces * (s.loader.config.width + 8) + 1) false (reachTarget r.key (s.stepped a b)))) := by
  have hstepped : holding r (s.stepped a b) = s.stepped a b := holding_self records
  have hdue : dueEvents false (s.stepped a b) = [.target r.key] := by
    rw [← hstepped, dueEvents_holding (r := r) (s := s.stepped a b) belt.clearance,
      if_pos (show targetDue (s.stepped a b).loader.config (s.stepped a b).lpu.linePos r = true from due)]
  rw [forwardStep_eq belt.powered belt.guard (by rw [records]; rfl), belt.calm, stepFuel_eq, stepEvents_one hdue]
  rfl

/-- The only record reaches the target that it awaits and is handed the arrival, after which nothing is due. -/
theorem forwardStep_arrival {a b : Bool} {s t : State} {r : Record} (belt : BeltRuns a b s)
    (records : s.table.records = [r]) (present : r.presence = .present) (since : r.beforeReset = false)
    (due : targetDue s.loader.config (s.lpu.linePos + 1#24) r = true)
    (arrival : handArrival r.key r.awaits
      (holding { r with awaits := r.awaits.after s.loader.config.width } (s.stepped a b)) = t)
    (quiet : dueEvents false t = []) : exec (.forwardStep a b) s = .next (portNext t) := by
  have hstepped : holding r (s.stepped a b) = s.stepped a b := holding_self records
  rw [forwardStep_reaches belt records due, ← hstepped,
    reachTarget_holding (s := s.stepped a b) (running_of_mode belt.mode) present since]
  rw [show (s.stepped a b).loader.config.width = s.loader.config.width from rfl, arrival, stepEvents_none quiet]

/-- An arrival after which nothing is due and nothing waits for the tariff memory port. -/
theorem forwardStep_arrival_idle {a b : Bool} {s t : State} {r : Record} (belt : BeltRuns a b s)
    (records : s.table.records = [r]) (present : r.presence = .present) (since : r.beforeReset = false)
    (due : targetDue s.loader.config (s.lpu.linePos + 1#24) r = true)
    (arrival : handArrival r.key r.awaits
      (holding { r with awaits := r.awaits.after s.loader.config.width } (s.stepped a b)) = t)
    (quiet : dueEvents false t = []) (idle : t.portIdle) : exec (.forwardStep a b) s = .next t := by
  rw [forwardStep_arrival belt records present since due arrival quiet, portNext_idle idle]

/-- The record of `onlyRecord` reaches its target on the step. -/
theorem onlyRecord_due {s : State} {r : Record} {m : Nat} (only : s.onlyRecord r m)
    (travel : r.awaits.travel s.loader.config = some m) :
    targetDue s.loader.config (s.lpu.linePos + 1#24) r = true := by
  obtain ⟨-, present, -, p, sighted, here⟩ := only
  rw [targetDue_awaited (by simp [present]) (awaitedAt_of_travel sighted travel), here, atOrPast_self]

/-- The only record, PRESENT, is handed the arrival at a travel, and what it becomes awaits a target further along. -/
theorem forwardStep_only {a b : Bool} {s u : State} {r q : Record} {m n : Nat} (belt : BeltRuns a b s)
    (only : s.onlyRecord r m) (travel : r.awaits.travel s.loader.config = some m)
    (arrival : handArrival r.key r.awaits
      (holding { r with awaits := r.awaits.after s.loader.config.width } (s.stepped a b)) = holding q u)
    (lpu : u.lpu = (s.stepped a b).lpu) (config : u.loader.config = s.loader.config)
    (present : q.presence ≠ .noticed) (sighted : q.sightPos = r.sightPos)
    (next : q.awaits.travel s.loader.config = some n) (ahead : m < n) (bound : n ≤ 8388607) :
    exec (.forwardStep a b) s = .next (portNext (holding q u)) := by
  have due := onlyRecord_due only travel
  obtain ⟨records, isPresent, since, p, hsighted, here⟩ := only
  refine forwardStep_arrival belt records isPresent since due arrival ?_
  rw [dueEvents_holding (by rw [lpu]; exact belt.clearance), config, lpu,
    if_neg (by simp [targetDue_ahead present (sighted.trans hsighted) (linePos := (s.stepped a b).lpu.linePos) here next ahead bound])]

/-- An arrival at a travel after which nothing waits for the tariff memory port. -/
theorem forwardStep_only_idle {a b : Bool} {s u : State} {r q : Record} {m n : Nat} (belt : BeltRuns a b s)
    (only : s.onlyRecord r m) (travel : r.awaits.travel s.loader.config = some m)
    (arrival : handArrival r.key r.awaits
      (holding { r with awaits := r.awaits.after s.loader.config.width } (s.stepped a b)) = holding q u)
    (lpu : u.lpu = (s.stepped a b).lpu) (config : u.loader.config = s.loader.config)
    (present : q.presence ≠ .noticed) (sighted : q.sightPos = r.sightPos)
    (next : q.awaits.travel s.loader.config = some n) (ahead : m < n) (bound : n ≤ 8388607) (idle : u.portIdle) :
    exec (.forwardStep a b) s = .next (holding q u) := by
  rw [forwardStep_only belt only travel arrival lpu config present sighted next ahead bound, portNext_idle (s := holding q u) idle]

end Sys2Proof.Laws
end

section
/-! PROOFS. The arrivals of a single record at the window, at D, at K, at its last column and at its exit (01 R16, 02 R31, 06
R107 to R113, 08 R162). -/

namespace Sys2Proof.Laws
open Sys2Proof.Machine

/-- The landmark order of a configuration, taken apart (10 R190). -/
theorem ordered_landmarks {c : ConfigCopy} (h : c.ordered = true) :
    c.ps < c.pe ∧ c.pe < c.d ∧ c.d < c.k ∧ c.k ≤ c.s ∧ c.s + (c.width - 1) * c.pitch < c.x := by
  simp only [ConfigCopy.ordered, Bool.and_eq_true, decide_eq_true_eq] at h
  obtain ⟨⟨⟨⟨⟨⟨-, hpe⟩, hd⟩, hk⟩, hs⟩, hx⟩, -⟩ := h
  exact ⟨hpe, hd, hk, hs, hx⟩

theorem ahead_of_ordered {c : ConfigCopy} (h : c.ordered = true) : c.k < c.x := by
  obtain ⟨-, -, -, hs, hx⟩ := ordered_landmarks h
  omega

/-! ### The exit window (01 R16) -/

/-- Settles O26: the exit cell's block and unblock, and the opening of a window, after which the exit is not yet due. -/
theorem exitCellMarksOpenWindows : Obligations.ExitCellMarksOpenWindows := by
  refine ⟨fun s m powered mode => ⟨exitCellBlock_clear powered mode, exitCellUnblock_started powered mode⟩, ?_⟩
  intro a b s r powered mode entry clearance guard idle only awaits run ahead
  have hcalm : jammed (s.stepped a b) = false := by
    change (cellJammed s.loader.config.jamLength s.lpu.entryBlocked _ ||
      cellJammed s.loader.config.jamLength s.lpu.exitBlocked (runForward s.lpu.exitBlocked s.lpu.exitRun)) = false
    cases hexit : s.lpu.exitBlocked with
    | false => simp [cellJammed, entry]
    | true =>
      obtain ⟨hlength, hcap⟩ := run hexit
      simp only [cellJammed, entry, runForward, Config.countCap, ↓reduceIte]
      simp
      omega
  have belt : BeltRuns a b s := ⟨powered, mode, hcalm, clearance, guard⟩
  have due := onlyRecord_due only (by rw [awaits]; rfl)
  obtain ⟨records, present, since, -⟩ := only
  rw [forwardStep_arrival_idle (t := holding
      { r with awaits := .exit, windowOpen := true, exitSeen := r.exitSeen || s.lpu.exitBlocked } (s.stepped a b))
    belt records present since due ?_ ?_ idle]
  · rfl
  · simp only [awaits, handArrival, Target.after]
    rw [updateRecord_holding rfl]
    rfl
  · rw [dueEvents_holding (s := s.stepped a b) clearance, if_neg]
    cases hexit : r.exitTarget with
    | none => simp [targetDue, awaitedAt, present]
    | some e => simp [targetDue, awaitedAt, present, atOrPast, show (s.stepped a b).lpu.linePos = s.lpu.linePos + 1#24 from rfl, ahead e hexit]

/-! ### The decision at D (06 R107, R108) -/

/-- A record whose rating has ended is not late (05 R96). -/
theorem lateRating_settled {q : Record} {u : State} (phase : q.phase = .rated ∨ q.phase = .faulted) :
    lateRating q.key (holding q u) = holding q u := by
  obtain h | h := phase <;> simp [lateRating, h]

/-- A RATED record that the station decides on. -/
theorem arriveAtD_rated {q : Record} {u : State} {p : RatingPart} (opened : q.claim = .opened) (phase : q.phase = .rated)
    (rating : q.rating = some (.rated p)) (running : u.running = true) :
    arriveAtD q.key (holding q u) =
      if !u.eligible then holding { q with claim := .ended, pass := .inhibited } u
      else if !u.au.canReserve p.value then holding { q with claim := .ended, pass := .funds } u
      else if !u.hasRoom 1 then holding { q with claim := .ended, pass := .queueFull } u
      else holding { q with claim := .claiming, reserved := some p.value }
        (enqueue [claimEntry q p] (u.setAu
          { u.au with reserved := u.au.reserved + p.value, outstanding := u.au.outstanding + 1 })) := by
  have hlate : lateRating q.key (holding q u) = holding q u := lateRating_settled (.inl phase)
  have hdecision : decision (holding q u) q =
      if !u.eligible then .error .inhibited
      else if !u.au.canReserve p.value then .error .funds
      else if !u.hasRoom 1 then .error .queueFull
      else .ok p := by simp [decision, running, phase, rating]
  unfold arriveAtD decideAtD
  rw [hlate, record_holding]
  simp only [opened, ne_eq, not_true_eq_false, ↓reduceIte, hdecision]
  cases u.eligible with
  | false => simp [endClaim, updateRecord_holding]
  | true =>
    cases u.au.canReserve p.value with
    | false => simp [endClaim, updateRecord_holding]
    | true =>
      cases u.hasRoom 1 with
      | false => simp [endClaim, updateRecord_holding]
      | true =>
        simp only [Bool.not_true, Bool.false_eq_true, ↓reduceIte, claimRecord, reserveFunds, setAu_holding, enqueue]
        rw [updateRecord_holding rfl]
        simp only [setLc_holding]
        rw [updateRecord_holding rfl]
        rfl

theorem beBytes_one (v : Nat) : beBytes 1 v = [BitVec.ofNat 8 v] := by simp [beBytes]

theorem claimEntry_eq (r : Record) (p : RatingPart) :
    claimEntry r p =
      { newEntry .claim 15#4
          (beBytes 3 r.key.toNat ++ beBytes 2 (r.weighing.weight.getD 0) ++
            [BitVec.ofNat 8 p.step, BitVec.ofNat 8 p.image] ++ beBytes 3 p.value) with
        record := some r.key } := by
  simp [claimEntry, beBytes_one]

theorem canReserve_iff (au : Account) (v : Nat) : au.canReserve v = true ↔
    v ≤ au.registers.descending - au.reserved - au.committed ∧
      au.registers.count + au.outstanding < 999999999 := by
  unfold Account.canReserve
  rw [Bool.and_eq_true, decide_eq_true_iff, decide_eq_true_iff]
  rfl

theorem hasRoom_iff (s : State) (n : Nat) : s.hasRoom n = true ↔ s.lc.queue.length + n ≤ 8 := by
  unfold State.hasRoom
  rw [decide_eq_true_iff]
  rfl

theorem stepped_eligible (a b : Bool) (s : State) : (s.stepped a b).eligible = s.eligible := rfl

/-- A decision at D after which the record awaits K, and nothing waits for the port. -/
theorem forwardStep_decides {a b : Bool} {s u : State} {r q : Record} (belt : BeltRuns a b s)
    (only : s.onlyRecord r s.loader.config.d) (ordered : s.loader.config.ordered = true)
    (bound : s.loader.config.x ≤ 4095) (awaits : r.awaits = .d)
    (arrival : arriveAtD r.key (holding { r with awaits := .k } (s.stepped a b)) = holding q u)
    (lpu : u.lpu = (s.stepped a b).lpu) (config : u.loader.config = s.loader.config)
    (present : q.presence = r.presence) (sighted : q.sightPos = r.sightPos) (next : q.awaits = .k) :
    exec (.forwardStep a b) s = .next (portNext (holding q u)) := by
  obtain ⟨-, -, hk, hs, hx⟩ := ordered_landmarks ordered
  have hpresent := only.2.1
  refine forwardStep_only (n := s.loader.config.k) belt only (by rw [awaits]; rfl) ?_ lpu config (by simp [present, hpresent])
    sighted (by rw [next]; rfl) hk (by omega)
  rw [awaits]
  exact arrival

/-- Settles O32: eligible, with funds and room, the decision claims. -/
theorem decisionClaimsThePiece : Obligations.DecisionClaimsThePiece := by
  intro a b s r p clear only ordered bound awaits opened phase rating inhibit funds count room
  have hrun : s.running = true := running_of_mode clear.2.1
  have heligible : (s.stepped a b).eligible = true := by
    rw [stepped_eligible, State.eligible, hrun, inhibit]
    rfl
  have hfunds : (s.stepped a b).au.canReserve p.value = true := (canReserve_iff s.au p.value).2 ⟨by omega, count⟩
  have hroom : (s.stepped a b).hasRoom 1 = true := (hasRoom_iff s 1).2 room
  have harrival := arriveAtD_rated (q := { r with awaits := .k }) (u := s.stepped a b) opened phase rating hrun
  rw [if_neg (by simp [heligible]), if_neg (by simp [hfunds]), if_neg (by simp [hroom]), claimEntry_eq] at harrival
  rw [forwardStep_decides (State.beltClear.runs clear a b) only ordered bound awaits harrival rfl rfl rfl rfl rfl]
  exact congrArg _ (portNext_idle clear.2.2.2.2.2.2)

/-- A record whose rating has ended in a fault is passed with its own reason (06 Table 6-3). -/
theorem arriveAtD_faulted {q : Record} {u : State} (opened : q.claim = .opened) (phase : q.phase = .faulted)
    (running : u.running = true) :
    arriveAtD q.key (holding q u) =
      holding { q with claim := .ended, pass := if q.pass = .tailgate then .tailgate
                                                else if q.pass = .noWeight then .noWeight else .rateFault } u := by
  have hlate : lateRating q.key (holding q u) = holding q u := lateRating_settled (.inr phase)
  have hreason : unratedReason q =
      if q.pass = .tailgate then .tailgate else if q.pass = .noWeight then .noWeight else .rateFault := by
    simp [unratedReason, phase]
  have hdecision : decision (holding q u) q = .error (unratedReason q) := by simp [decision, running, phase]
  unfold arriveAtD decideAtD
  rw [hlate, record_holding]
  simp only [opened, ne_eq, not_true_eq_false, ↓reduceIte, hdecision, endClaim]
  rw [updateRecord_holding rfl, hreason]

/-- What late rating makes of a record that waits for its rating or is being rated (05 R96). -/
def ratedLate (q : Record) : Record :=
  { q with phase := .weighed, waiting := if q.phase = .weighed then false else q.waiting, pass := .lateRate }

theorem decideAtD_late {q : Record} {u : State} (opened : q.claim = .opened) (running : u.running = true) :
    decideAtD q.key (holding (ratedLate q) u) = holding { ratedLate q with claim := .ended } u := by
  have hdecision : decision (holding (ratedLate q) u) (ratedLate q) = .error .lateRate := by
    simp [decision, running, ratedLate, unratedReason]
  unfold decideAtD
  rw [record_holding_of (k := q.key) (r := ratedLate q) rfl]
  simp only [show (ratedLate q).claim = .opened from opened, ne_eq, not_true_eq_false, ↓reduceIte, hdecision, endClaim]
  exact updateRecord_holding (r := ratedLate q) rfl u _

theorem decideAtD_foreign {q : Record} {u : State} (foreign : q.claim = .foreign) :
    decideAtD q.key (holding q u) = holding q u := by
  simp [decideAtD, foreign]

theorem lateRating_weighed {q : Record} {u : State} (phase : q.phase = .weighed) :
    lateRating q.key (holding q u) = holding (ratedLate q) u := by
  simp only [lateRating, record_holding, phase, ratedLate, ↓reduceIte]
  rw [updateRecord_holding rfl]
  simp only [phase]

theorem lateRating_rating {q : Record} {u : State} {w : Walk} (phase : q.phase = .rating) (walk : u.rater.walk = some w)
    (attached : w.record = some q.key) :
    lateRating q.key (holding q u) =
      holding (ratedLate q) (u.setRater { u.rater with walk := some { w with record := none } }) := by
  simp only [lateRating, record_holding, phase, ratedLate, reduceCtorEq, ↓reduceIte]
  rw [updateRecord_holding rfl]
  simp [detachWalk, walk, attached]

/-- Settles O33: the alternatives of Table 6-3 one by one, then the record that is late. -/
theorem decisionPassesThePiece : Obligations.DecisionPassesThePiece := by
  constructor
  · intro a b s r clear only ordered bound awaits
    have hrun : (s.stepped a b).running = true := running_of_mode clear.2.1
    have passed {q : Record} (arrival : arriveAtD r.key (holding { r with awaits := .k } (s.stepped a b)) =
        holding q (s.stepped a b)) (present : q.presence = r.presence) (sighted : q.sightPos = r.sightPos)
        (next : q.awaits = .k) : exec (.forwardStep a b) s = .next (holding q (s.stepped a b)) := by
      rw [forwardStep_decides (State.beltClear.runs clear a b) only ordered bound awaits arrival rfl rfl present sighted
        next]
      exact congrArg _ (portNext_idle clear.2.2.2.2.2.2)
    refine ⟨fun why opened reason => ?_, fun opened phase => ?_, fun foreign phase => ?_⟩
    · obtain ⟨phase, rfl⟩ | ⟨p, phase, rating, reason⟩ := reason
      · exact passed (arriveAtD_faulted (q := { r with awaits := .k }) opened phase hrun) rfl rfl rfl
      · refine passed ?_ rfl rfl rfl
        have harrival := arriveAtD_rated (q := { r with awaits := .k }) opened phase rating hrun
        have heligible : (s.stepped a b).eligible = s.inhibit.isEmpty := by
          rw [stepped_eligible, State.eligible, running_of_mode clear.2.1, Bool.true_and]
        obtain ⟨inhibit, rfl⟩ | ⟨inhibit, rfl, funds⟩ | ⟨inhibit, rfl, full, funds, count⟩ := reason
        · rw [if_pos (by simp [heligible, inhibit])] at harrival
          exact harrival
        · have hfunds : ¬ (s.stepped a b).au.canReserve p.value = true := fun h => by
            have := (canReserve_iff s.au p.value).1 h
            omega
          rw [if_neg (by simp [heligible, inhibit]), if_pos (by simp [hfunds])] at harrival
          exact harrival
        · have hfunds : (s.stepped a b).au.canReserve p.value = true := (canReserve_iff s.au p.value).2 ⟨funds, count⟩
          have hroom : ¬ (s.stepped a b).hasRoom 1 = true := fun h => by
            have := (hasRoom_iff s 1).1 h
            omega
          rw [if_neg (by simp [heligible, inhibit]), if_neg (by simp [hfunds]), if_pos (by simp [hroom])] at harrival
          exact harrival
    · have hlate := lateRating_weighed (q := { r with awaits := .k }) (u := s.stepped a b) phase
      have harrival := decideAtD_late (q := { r with awaits := .k }) (u := s.stepped a b) opened hrun
      rw [passed (q := { ratedLate { r with awaits := .k } with claim := .ended }) (by rw [arriveAtD, hlate, harrival]) rfl rfl
        rfl]
      simp only [ratedLate, phase, ↓reduceIte]
      rfl
    · have hlate := lateRating_settled (q := { r with awaits := .k }) (u := s.stepped a b) (.inl phase)
      exact passed ((congrArg (decideAtD r.key) hlate).trans (decideAtD_foreign (q := { r with awaits := .k }) foreign)) rfl
        rfl rfl
  · intro a b s r w powered mode entry exit clearance guard only ordered bound awaits phase walk attached port
    have hrun : (s.stepped a b).running = true := running_of_mode mode
    have belt : BeltRuns a b s := ⟨powered, mode, jammed_clear entry exit, clearance, guard⟩
    have hlate := lateRating_rating (q := { r with awaits := .k }) (u := s.stepped a b) phase walk attached
    let detached := (s.stepped a b).setRater { s.rater with walk := some { w with record := none } }
    have late {q : Record} (arrival : decideAtD r.key (holding (ratedLate { r with awaits := .k }) detached) =
        holding q detached) (present : q.presence = r.presence) (sighted : q.sightPos = r.sightPos)
        (next : q.awaits = .k) : exec (.forwardStep a b) s = .next (holding q detached) := by
      rw [forwardStep_decides (q := q) (u := detached) belt only ordered bound awaits
        ((congrArg (decideAtD r.key) hlate).trans arrival) rfl rfl present sighted next]
      exact congrArg _ (portNext_busy (by rw [holding_tariff, show detached.tariff = s.tariff from rfl, port]; rfl))
    constructor
    · intro opened
      rw [late (decideAtD_late (q := { r with awaits := .k }) (u := detached) opened hrun) rfl rfl rfl]
      simp only [ratedLate, phase, reduceCtorEq, ↓reduceIte]
      rfl
    · intro foreign
      rw [late (decideAtD_foreign (q := ratedLate { r with awaits := .k }) (u := detached) foreign) rfl rfl rfl]
      simp only [ratedLate, phase, reduceCtorEq, ↓reduceIte]
      rfl

end Sys2Proof.Laws
end

section
/-! PROOFS. The commit at K, the last column, the exit, the notice limit, the horizon clearance and a jammed cell (01 R8, R13,
02 R27 to R32, 06 R113, 08 R162). -/

namespace Sys2Proof.Laws
open Sys2Proof.Machine

/-! ### The commit at K (06 R113) -/

theorem offerReports_holding {q : Record} {u : State} (present : q.presence ≠ .exited) :
    offerReports (holding q u) = holding q u := offerReports_none (dueReports_holding present u)

/-- The books of a committed amount, before the writer takes the debit (07 R141). -/
def committedAu (k : Pos) (amount : Nat) (au : Account) : Account :=
  { au with
    reserved := au.reserved - amount
    committed := au.committed + amount
    queue := au.queue ++ [{ key := k, amount := amount }] }

theorem arriveAtK_claimed {q : Record} {u : State} {amount : Nat} (claimed : q.claim = .claimed)
    (reserved : q.reserved = some amount) :
    arriveAtK q.key (holding q u) =
      startDebit (holding { q with claim := .debitWait } (u.setAu (committedAu q.key amount u.au))) := by
  simp only [arriveAtK, record_holding, claimed, commit, reserved, Option.getD_some]
  rw [updateRecord_holding rfl]
  simp only [reserved]
  rfl

theorem startDebit_busy {s : State} {w : NvWrite} (write : s.au.write = some w) : startDebit s = s := by
  simp [startDebit, write]

theorem startDebit_idle {s : State} {item : DebitItem} {rest : List DebitItem} (write : s.au.write = none)
    (queue : s.au.queue = item :: rest) :
    startDebit s = s.setAu { s.au with queue := rest, write := some (.debit item (debitSet s.au item.amount)) } := by
  simp [startDebit, write, queue]

theorem arriveAtK_claimed_idle {q : Record} {u : State} {amount : Nat} (claimed : q.claim = .claimed)
    (reserved : q.reserved = some amount) (write : u.au.write = none) (queue : u.au.queue = []) :
    arriveAtK q.key (holding q u) =
      holding { q with claim := .debitWait } (u.setAu
        { committedAu q.key amount u.au with
          queue := []
          write := some (.debit { key := q.key, amount := amount } (debitSet u.au amount)) }) := by
  rw [arriveAtK_claimed claimed reserved,
    startDebit_idle (item := { key := q.key, amount := amount }) (rest := []) (by exact write)
      (by simp [committedAu, queue])]
  rfl

theorem arriveAtK_claimed_busy {q : Record} {u : State} {amount : Nat} {w : NvWrite} (claimed : q.claim = .claimed)
    (reserved : q.reserved = some amount) (write : u.au.write = some w) :
    arriveAtK q.key (holding q u) =
      holding { q with claim := .debitWait } (u.setAu (committedAu q.key amount u.au)) := by
  rw [arriveAtK_claimed claimed reserved, startDebit_busy (w := w) (by exact write)]

/-- A record whose CLAIM is the only frame, waiting, is late at K. -/
theorem arriveAtK_claiming {q : Record} {u : State} {amount : Nat} {e : TxEntry} (claiming : q.claim = .claiming)
    (present : q.presence ≠ .exited) (reserved : q.reserved = some amount) (queue : u.lc.queue = [e])
    (claim : e.isClaimOf q.key = true) (waits : e.onMedium = false) :
    arriveAtK q.key (holding q u) =
      holding { q with claim := .ended, pass := .lateClaim }
        ((u.setAu { u.au with reserved := u.au.reserved - amount, outstanding := u.au.outstanding - 1 }).setLc
          { u.lc with queue := [] }) := by
  simp only [arriveAtK, record_holding, claiming, releaseFunds, reserved, Option.getD_some, endClaim]
  rw [setAu_holding, updateRecord_holding rfl]
  simp only [withdrawClaim, claimWaits, dropClaim, holding_lc, State.setAu_lc, queue, List.any_cons, claim, waits,
    Bool.not_false, Bool.and_self, List.any_nil, Bool.or_false, ↓reduceIte, setLc_holding]
  rw [offerReports_holding (by exact present)]
  simp [claim, waits, reserved]

/-- Settles O34: the three situations of the claim phase at K. -/
theorem commitAtKQueuesTheDebit : Obligations.CommitAtKQueuesTheDebit := by
  intro a b s r amount clear only ordered bound before awaits reserved
  have hpresent : r.presence ≠ .noticed := by simp [only.2.1]
  obtain ⟨-, -, -, -, hx⟩ := ordered_landmarks ordered
  have committed {q : Record} {u : State} (arrival : arriveAtK r.key (holding { r with awaits := .s } (s.stepped a b)) =
      holding q u) (lpu : u.lpu = (s.stepped a b).lpu) (config : u.loader.config = s.loader.config)
      (present : q.presence = r.presence) (sighted : q.sightPos = r.sightPos) (next : q.awaits = .s) (idle : u.portIdle) :
      exec (.forwardStep a b) s = .next (holding q u) := by
    refine forwardStep_only_idle (n := s.loader.config.s) (State.beltClear.runs clear a b) only (by rw [awaits]; rfl) ?_ lpu
      config (by rwa [present]) sighted (by rw [next]; rfl) before (by omega) idle
    rw [awaits]
    exact arrival
  have idle : s.portIdle := clear.2.2.2.2.2.2
  refine ⟨fun claimed write queue => ?_, fun claimed w write => ?_, fun claiming e queue kind owner waits kept => ?_⟩
  · rw [committed (arriveAtK_claimed_idle (q := { r with awaits := .s }) (u := s.stepped a b) claimed reserved write queue)
      rfl rfl rfl rfl rfl idle, ← queue]
    rfl
  · exact committed (arriveAtK_claimed_busy (q := { r with awaits := .s }) (u := s.stepped a b) claimed reserved write)
      rfl rfl rfl rfl rfl idle
  · exact committed (arriveAtK_claiming (q := { r with awaits := .s }) (u := s.stepped a b) claiming
      (by simp [only.2.1]) reserved queue (by simp [TxEntry.isClaimOf, kind, owner, kept]) waits) rfl rfl rfl rfl rfl idle

/-! ### The last column (08 R162, R163) -/

/-- The state after a column of an owner has been fired or dropped, and PH_RDY has been read. -/
def columnTaken (o : PrintOwner) (c : Nat) (u : State) : State :=
  (u.setPins { u.pins with phRdy := u.pins.phRdyAgain }).setIp
    { u.ip with
      fired := if u.pins.phRdy then u.ip.fired ++ [composeColumn u.loader.config o.content c] else u.ip.fired }

/-- The record after its column: the next one, and one more dropped unless it was fired. -/
def columnPrinted (fired : Bool) (c : Nat) (q : Record) : Record :=
  { q with print := some { next := c + 1, dropped := (progressOf q).dropped + if fired then 0 else 1 } }

/-- The record is the print owner, PRINTING. -/
theorem arriveAtColumn_owner {q : Record} {u : State} {o : PrintOwner} {c : Nat} (owner : u.ip.owner = some o)
    (key : o.key = q.key) (printing : q.claim = .printing) :
    arriveAtColumn q.key c (holding q u) =
      if c + 1 = u.loader.config.width then
        holding (endPrint ((progressOf q).dropped + if u.pins.phRdy then 0 else 1) (columnPrinted u.pins.phRdy c q))
          ((columnTaken o c u).setIp { (columnTaken o c u).ip with owner := none })
      else holding (columnPrinted u.pins.phRdy c q) (columnTaken o c u) := by
  cases ready : u.pins.phRdy <;> by_cases last : c + 1 = u.loader.config.width
  all_goals
    simp [arriveAtColumn, State.record, holding, State.updateRecord, State.setTable, State.setPins, State.setIp,
      columnTaken, columnPrinted, endPrint, owner, key, printing, ready, last]
  rw [← owner]

/-- Settles O36: the last column of the owner, whether fired or dropped; the window is still ahead. -/
theorem lastColumnEndsThePrint : Obligations.LastColumnEndsThePrint := by
  intro a b s r o dropped clear only ordered bound width awaits owner key printing progress
  have hpresent : r.presence ≠ .noticed := by simp [only.2.1]
  obtain ⟨-, -, -, -, hx⟩ := ordered_landmarks ordered
  have hwidth : s.loader.config.width - 1 + 1 = s.loader.config.width := by omega
  have hafter : r.awaits.after s.loader.config.width = .window := by simp [awaits, Target.after, hwidth]
  have harrival := arriveAtColumn_owner (q := { r with awaits := .window }) (u := s.stepped a b)
    (c := s.loader.config.width - 1) owner key printing
  rw [if_pos (by exact hwidth)] at harrival
  rw [forwardStep_only_idle (n := s.loader.config.x) (State.beltClear.runs clear a b) only (by rw [awaits]; rfl)
    (by rw [hafter, awaits]; exact harrival) (by rfl) (by rfl) (by exact hpresent) (by rfl) (by rfl) hx (by omega)
    (by exact clear.2.2.2.2.2.2)]
  have hprogress : progressOf { r with awaits := .window } = { next := s.loader.config.width - 1, dropped := dropped } := by
    simp [progressOf, progress]
  cases a <;>
    simp [hprogress, columnPrinted, endPrint, columnTaken, hwidth, State.stepped, holding, State.setTable, State.setIp,
      State.setPins, State.setLpu]

/-! ### The exit (02 R31, R32) -/

/-- A record as the exit arrival finds it (01 R16). -/
def atExit (r : Record) : Record := settleLost { r with awaits := .beyond }

/-- A step that brings the only record to its exit target. -/
theorem forwardStep_exits {a b : Bool} {s t : State} {r : Record} (clear : s.beltClear) (records : s.table.records = [r])
    (present : r.presence = .present) (since : r.beforeReset = false) (awaits : r.awaits = .exit)
    (target : r.exitTarget = some (s.lpu.linePos + 1#24))
    (arrival : exitArrival r.key (holding (atExit r) (s.stepped a b)) = t) (clearance : t.lpu.clearance = none)
    (gone : ∀ q ∈ t.table.records, q.presence ≠ .noticed ∧ q.awaits = .beyond) (idle : t.portIdle) :
    exec (.forwardStep a b) s = .next t := by
  have due : targetDue s.loader.config (s.lpu.linePos + 1#24) r = true := by
    rw [targetDue_awaited (t := s.lpu.linePos + 1#24) (by simp [present]) (by rw [awaitedAt, awaits]; exact target),
      atOrPast_self]
  refine forwardStep_arrival_idle (State.beltClear.runs clear a b) records present since due ?_ ?_ idle
  · rw [awaits]
    change exitArrival r.key ((holding { r with awaits := .beyond } (s.stepped a b)).updateRecord r.key settleLost) = t
    rw [updateRecord_holding rfl]
    exact arrival
  · have hnone : t.table.records.filter (targetDue t.loader.config t.lpu.linePos) = [] := by
      rw [List.filter_eq_nil_iff]
      intro q hq
      obtain ⟨hpresence, hawaits⟩ := gone q hq
      rw [targetDue_unset hpresence (by unfold awaitedAt; cases q.sightPos <;> simp [hawaits, Target.travel])]
      simp
    simp [dueEvents, clearance, hnone]

/-- A record as its report shows it (02 R31). -/
def franked (q : Record) : Record := if q.debitedHere then q else { q with outcome := some .unfranked }

theorem franked_key (q : Record) : (franked q).key = q.key := by
  unfold franked
  split <;> rfl

theorem exitArrival_removes {q : Record} {u : State} (unneeded : needsReport u.isTail q = false)
    (walk : u.rater.walk = none) (owner : u.lpu.entryOwner = none) :
    exitArrival q.key (holding q u) = u.setTable { u.table with records := [] } := by
  simp only [exitArrival, record_holding, holding_isTail, unneeded, Bool.not_false, ↓reduceIte]
  exact removeRecord_holding rfl u walk (by simp [owner])

theorem exitArrival_needed {q : Record} {u : State} (needed : needsReport u.isTail q = true) :
    exitArrival q.key (holding q u) =
      if (franked q).reportReady && u.hasRoom 2 then sendReport (franked q) (holding (franked q) u)
      else holding { franked q with presence := .exited } u := by
  have hupdate : (holding q u).updateRecord q.key (fun _ => franked q) = holding (franked q) u :=
    updateRecord_holding rfl u _
  simp only [exitArrival, record_holding, holding_isTail, needed, Bool.not_true, Bool.false_eq_true, ↓reduceIte]
  change (if (franked q).reportReady && ((holding q u).updateRecord q.key (fun _ => franked q)).hasRoom 2 then
      sendReport (franked q) ((holding q u).updateRecord q.key (fun _ => franked q))
    else ((holding q u).updateRecord q.key (fun _ => franked q)).updateRecord q.key
      (fun r => { r with presence := .exited })) = _
  rw [hupdate, holding_hasRoom, updateRecord_holding (franked_key q)]

theorem exitArrival_reports {q : Record} {u : State} (needed : needsReport u.isTail q = true)
    (ready : (franked q).reportReady = true) (room : u.hasRoom 2 = true) (walk : u.rater.walk = none)
    (owner : u.lpu.entryOwner = none) :
    exitArrival q.key (holding q u) =
      (enqueue (pieceReport (franked q)) u).setTable { u.table with records := [] } := by
  rw [exitArrival_needed needed, if_pos (by simp [ready, room])]
  exact removeRecord_holding rfl (enqueue (pieceReport (franked q)) u) walk (by simp [enqueue, owner])

theorem exitArrival_keeps {q : Record} {u : State} (needed : needsReport u.isTail q = true)
    (full : u.hasRoom 2 = false) :
    exitArrival q.key (holding q u) = holding { franked q with presence := .exited } u := by
  rw [exitArrival_needed needed, if_neg (by simp [full])]

theorem isTail_iff (s : State) : s.isTail = true ↔ ∀ u ∈ s.cc.peers, u.station ≤ s.loader.config.station := by
  simp [State.isTail]

/-- Settles O37: a FOREIGN record, a debited one with and without room, and an undebited one at the tail and before it. -/
theorem exitRemovesOrReports : Obligations.ExitRemovesOrReports := by
  intro a b s r clear records present since awaits target owner
  have idle : s.portIdle := clear.2.2.2.2.2.2
  have clearance : (s.stepped a b).lpu.clearance = none := clear.2.2.2.2.1
  have exits {t : State} (arrival : exitArrival r.key (holding (atExit r) (s.stepped a b)) = t) :=
    forwardStep_exits clear records present since awaits target arrival
  have removed (unneeded : needsReport s.isTail (atExit r) = false) :
      exec (.forwardStep a b) s = .next { s.stepped a b with table := { s.table with records := [] } } :=
    exits (exitArrival_removes (q := atExit r) (u := s.stepped a b) unneeded idle.2.1 owner) clearance (by simp) idle
  have reported (needed : needsReport s.isTail (atExit r) = true) (ready : (franked (atExit r)).reportReady = true)
      (room : s.lc.queue.length + 2 ≤ 8) :=
    exits (exitArrival_reports (q := atExit r) (u := s.stepped a b) needed ready ((hasRoom_iff s 2).2 room) idle.2.1 owner)
      clearance (by simp) idle
  refine ⟨fun foreign undebited => ?_, fun q ended debited hq => ?_, fun q ended undebited room hq => ?_⟩
  · exact removed (by simp [needsReport, Record.debitedHere, atExit, settleLost, foreign, undebited])
  · have hdebited : (atExit r).debitedHere = true := by
      simp [Record.debitedHere, atExit, settleLost, ended, Option.isSome_iff_ne_none.2 debited]
    have hneeded : needsReport s.isTail (atExit r) = true := by simp [needsReport, hdebited]
    have hfranked : franked (atExit r) = q := by
      rw [franked, if_pos hdebited, hq]
      rfl
    refine ⟨fun room => ?_, fun full => ?_⟩
    · have hready : (franked (atExit r)).reportReady = true := by
        simp [hfranked, hq, Record.reportReady, Option.isSome_iff_ne_none.2 debited]
      have hreported := reported hneeded hready room
      rw [hfranked] at hreported
      exact hreported
    · have hfull : s.hasRoom 2 = false := by
        rw [Bool.eq_false_iff]
        exact fun h => by have := (hasRoom_iff s 2).1 h; omega
      have hkept := exitArrival_keeps (q := atExit r) (u := s.stepped a b) hneeded hfull
      rw [hfranked] at hkept
      exact exits hkept clearance (by simp [hq]) idle
  · have hdebited : (atExit r).debitedHere = false := by
      simp [Record.debitedHere, atExit, settleLost, ended, undebited]
    have hforeign : (atExit r).claim ≠ .foreign := by simp [atExit, settleLost, ended]
    have hfranked : franked (atExit r) = q := by
      rw [franked, if_neg (by simp [hdebited]), hq]
      rfl
    refine ⟨fun tail => ?_, fun before => ?_⟩
    · have hready : (franked (atExit r)).reportReady = true := by
        simp [hfranked, hq, Record.reportReady, Record.debitedHere, ended, undebited]
      have hreported := reported (by simp [needsReport, hdebited, (isTail_iff s).2 tail, hforeign]) hready room
      rw [hfranked] at hreported
      exact hreported
    · have htail : s.isTail = false := by
        rw [Bool.eq_false_iff]
        obtain ⟨u, hu, hlater⟩ := before
        exact fun h => absurd ((isTail_iff s).1 h u hu) (by omega)
      exact removed (by simp [needsReport, hdebited, htail])

/-! ### Counters, the notice limit and the horizon clearance (01 R1 to R12, 02 R27, R29) -/

/-- A NOTICED record reaches its notice limit in RUNNING (02 R27). -/
theorem forwardStep_expires {a b : Bool} {s : State} {r : Record} (clear : s.beltClear) (records : s.table.records = [r])
    (noticed : r.presence = .noticed) (since : r.beforeReset = false)
    (limit : r.noticeLimit = some (s.lpu.linePos + 1#24)) (owner : s.lpu.entryOwner ≠ some r.key) :
    exec (.forwardStep a b) s = .next ((s.stepped a b).setTable { s.table with records := [] }) := by
  have idle : s.portIdle := clear.2.2.2.2.2.2
  have clearance : s.lpu.clearance = none := clear.2.2.2.2.1
  have due : targetDue s.loader.config (s.lpu.linePos + 1#24) r = true := by simp [targetDue, noticed, limit]
  have hreached : reachTarget r.key (s.stepped a b) = (s.stepped a b).setTable { s.table with records := [] } := by
    have hrun : (s.stepped a b).running = true := running_of_mode clear.2.1
    rw [← holding_self (s := s.stepped a b) records]
    simp only [reachTarget, record_holding, noticed, holding_running, hrun, since, Bool.not_false, Bool.and_self, ↓reduceIte]
    exact removeRecord_holding rfl (s.stepped a b) idle.2.1 owner
  rw [forwardStep_reaches (State.beltClear.runs clear a b) records due, hreached,
    stepEvents_none (dueEvents_empty (by exact clearance) rfl), portNext_idle (by exact idle)]

theorem clearHorizon_running {s : State} (running : s.running = true) :
    clearHorizon s =
      { s with
        lpu := { s.lpu with clearance := none }
        table := { s.table with horizon := none }
        inhibit := { s.inhibit with blind := false } } := by
  rw [clearHorizon, if_pos (by exact running)]
  rfl

theorem clearHorizon_elsewhere {s : State} (running : s.running = false) :
    clearHorizon s = { s with lpu := { s.lpu with clearance := none } } := by
  rw [clearHorizon, if_neg (by exact Bool.eq_false_iff.1 running)]
  rfl

/-- The horizon clearance alone is reached on the step (01 R8, 02 R29). -/
theorem forwardStep_clears {a b : Bool} {s : State} (powered : s.loader.powered = true) (entry : s.lpu.entryBlocked = false)
    (exit : s.lpu.exitBlocked = false) (guard : s.wu.guardPos = none) (idle : s.portIdle) (records : s.table.records = [])
    (clearance : s.lpu.clearance = some (s.lpu.linePos + 1#24)) :
    exec (.forwardStep a b) s = .next (clearHorizon (s.stepped a b)) := by
  have hdue : dueEvents false (s.stepped a b) = [.clearance] := by
    have hclearance : (s.stepped a b).lpu.clearance = some (s.stepped a b).lpu.linePos := clearance
    have hrecords : (s.stepped a b).table.records = [] := records
    simp [dueEvents, hclearance, hrecords]
  have hclear : (clearHorizon (s.stepped a b)).lpu.clearance = none ∧ (clearHorizon (s.stepped a b)).table.records = [] ∧
      (clearHorizon (s.stepped a b)).tariff = s.tariff ∧ (clearHorizon (s.stepped a b)).rater = s.rater := by
    cases hrun : s.running with
    | true =>
      rw [clearHorizon_running (s := s.stepped a b) hrun]
      exact ⟨rfl, records, rfl, rfl⟩
    | false =>
      rw [clearHorizon_elsewhere (s := s.stepped a b) hrun]
      exact ⟨rfl, records, rfl, rfl⟩
  obtain ⟨hnone, hempty, htariff, hrater⟩ := hclear
  rw [forwardStep_eq powered guard (by rw [records]; rfl), jammed_clear entry exit, stepFuel_eq, stepEvents_one hdue]
  change Host.Outcome.next (portNext (stepEvents _ false (clearHorizon (s.stepped a b)))) = _
  rw [stepEvents_none (dueEvents_empty hnone hempty), portNext_idle (by rw [State.portIdle, htariff, hrater]; exact idle)]

/-- Settles O19: what every forward step leaves, the notice limit, and the clearance in and out of RUNNING. -/
theorem forwardStepCounts : Obligations.ForwardStepCounts := by
  refine ⟨fun a b s powered => ?_, fun a b s r clear records noticed since limit owner =>
    forwardStep_expires clear records noticed since limit owner, ?_⟩
  · obtain ⟨t, ht, h⟩ := forwardStep_steppedFrom a b powered
    have hslots := congrFun h.slots
    have hareas := congrFun h.areas
    refine ⟨t, ht, ?_, ?_, ?_, ?_, ?_, ?_, ?_, ?_, ?_, h.config, h.cc, h.jobs, hslots .a, hslots .b, hareas .a, hareas .b, h.zero,
      h.registers⟩
    all_goals rw [h.lpu]; rfl
  · intro a b s powered entry exit guard idle records clearance
    rw [forwardStep_clears powered entry exit guard idle records clearance]
    refine ⟨fun mode => ?_, fun mode => ?_⟩
    · rw [clearHorizon_running (s := s.stepped a b) (running_of_mode mode)]
      rfl
    · have hrun : s.running = false := by simpa [State.running] using mode
      rw [clearHorizon_elsewhere (s := s.stepped a b) hrun]

/-! ### A jammed cell and a reversal (01 R13, R14) -/

/-- HOLD entry of a station without records and without a walk (02 R37). -/
theorem enterHold_empty {s : State} (records : s.table.records = []) (walk : s.rater.walk = none) :
    enterHold s = (s.setIp { s.ip with owner := none }).setLpu { s.lpu with entryOwner := none } := by
  have hgiven : giveUpRecords s = (s.setIp { s.ip with owner := none }).setLpu { s.lpu with entryOwner := none } := by
    have hrater : { s.rater with walk := none } = s.rater := by rw [← walk]
    have htable : { s.table with records := [] } = s.table := by rw [← records]
    have hau : releasedAu s = s.au := by simp [releasedAu, records]
    rw [giveUpRecords_eq, hau, walk, records, List.filterMap_nil, Option.map_none, hrater, htable]
    have howner : s.lpu.entryOwner.filter (fun k => ([] : List Record).any (fun r => r.key == k)) = none := by
      cases s.lpu.entryOwner <;> rfl
    rw [howner]
    rfl
  have hframes : holdFrames s = s := by
    simp [holdFrames, keysIn, records, inAnyOrder]
  rw [enterHold_eq, hframes, hgiven, offerReports_none]
  simp [dueReports, records]

/-- Settles O21: the JAM request is the only event of the step, and nothing is due after the HOLD entry. -/
theorem jamPutsTheStationIntoHold : Obligations.JamPutsTheStationIntoHold := by
  intro a b s powered mode records clearance guard idle blocked length
  have hjam : jammed (s.stepped a b) = true := by
    change (cellJammed _ _ _ || cellJammed s.loader.config.jamLength s.lpu.exitBlocked
      (runForward s.lpu.exitBlocked s.lpu.exitRun)) = true
    simp only [cellJammed, blocked, runForward, ↓reduceIte, Config.countCap, Bool.true_and, Bool.or_eq_true,
      Bool.and_eq_true, decide_eq_true_eq]
    omega
  have hdue : dueEvents true (s.stepped a b) = [.jam] := by
    have hclearance : (s.stepped a b).lpu.clearance = none := clearance
    have hrecords : (s.stepped a b).table.records = [] := records
    simp [dueEvents, hclearance, hrecords]
  have hhold : holdRequest .jam (s.stepped a b) =
      (((s.stepped a b).setLoader { s.loader with mode := some .hold, reason := .hold .jam }).setIp
        { owner := none, fired := [] }).setLpu { (s.stepped a b).lpu with entryOwner := none } := by
    rw [holdRequest, if_pos (show (s.stepped a b).running = true from running_of_mode mode)]
    exact enterHold_empty records idle.2.1
  rw [forwardStep_eq powered guard (by rw [records]; rfl), hjam, stepFuel_eq, stepEvents_one hdue]
  change Host.Outcome.next (portNext (stepEvents _ false (holdRequest .jam (s.stepped a b)))) = _
  rw [hhold, stepEvents_none (dueEvents_empty (by exact clearance) (by exact records)), portNext_idle (by exact idle)]
  rfl

end Sys2Proof.Laws
end

section
/-! PROOFS. The backward step, and what HOLD entry makes of the queue, the books and every record (01 R14, 02 R37, 06 R132,
07 R150, 08 R165). -/

namespace Sys2Proof.Laws
open Sys2Proof.Machine

/-! ### What offers and reports leave as it was -/

/-- A state that differs in its queue and free count alone. -/
def queueBeside (s t : State) : Prop := ∃ q n, t = (s.setLc { s.lc with queue := q }).setFree n

theorem queueBeside_offer {s t : State} (es : List TxEntry) (h : queueBeside s t) : queueBeside s (offer es t) := by
  obtain ⟨q, n, rfl⟩ := h
  obtain ⟨q', h'⟩ := offer_frame es ((s.setLc { s.lc with queue := q }).setFree n)
  exact ⟨q', n, h'⟩

theorem queueBeside_dropClaim {s t : State} (k : Pos) (h : queueBeside s t) : queueBeside s (dropClaim k t) := by
  obtain ⟨q, n, rfl⟩ := h
  exact ⟨_, n, rfl⟩

theorem queueBeside_setFree {s t : State} (m : Nat) (h : queueBeside s t) : queueBeside s (t.setFree m) := by
  obtain ⟨q, n, rfl⟩ := h
  exact ⟨q, m, rfl⟩

/-- What the withdrawals of CLAIMs keep, they keep one after another. -/
theorem dropClaims_keeps {P : State → Prop} (hdrop : ∀ k s, P s → P (dropClaim k s)) (ks : List Pos) :
    ∀ {s : State}, P s → P (ks.foldl (fun s k => dropClaim k s) s) := by
  induction ks with
  | nil => exact fun h => h
  | cons k ks ih => exact fun h => ih (hdrop k _ h)

theorem holdFrames_beside (s : State) : queueBeside s (holdFrames s) :=
  inAnyOrder_keeps (fun _ n h => queueBeside_setFree n h) (fun _ _ h => queueBeside_offer _ h) _ _
    (dropClaims_keeps (fun k _ h => queueBeside_dropClaim k h) _ ⟨s.lc.queue, s.free, rfl⟩)

/-- A state that differs in its queue, records, entry owner and walk alone. -/
def reportBeside (s t : State) : Prop :=
  ∃ q rs o w, t =
    (((s.setLc { s.lc with queue := q }).setTable { s.table with records := rs }).setLpu
      { s.lpu with entryOwner := o }).setRater { s.rater with walk := w }

theorem detachWalk_rater (k : Pos) (s : State) : ∃ w, (detachWalk k s).rater = { s.rater with walk := w } := by
  obtain h | ⟨w, -, -, h⟩ := detachWalk_cases k s <;> rw [h]
  · exact ⟨s.rater.walk, rfl⟩
  · exact ⟨_, rfl⟩

theorem offerReports_beside (s : State) : reportBeside s (offerReports s) := by
  refine offerReports_keeps (P := reportBeside s) (fun r t _ h => ?_) ⟨s.lc.queue, s.table.records, s.lpu.entryOwner, s.rater.walk, rfl⟩
  obtain ⟨q, rs, o, w, rfl⟩ := h
  rw [sendReport, removeRecord_eq]
  obtain ⟨w', hw⟩ := detachWalk_rater r.key (enqueue (pieceReport r)
    ((((s.setLc { s.lc with queue := q }).setTable { s.table with records := rs }).setLpu
      { s.lpu with entryOwner := o }).setRater { s.rater with walk := w }))
  rw [hw]
  exact ⟨_, _, _, w', rfl⟩

/-! ### CLAIMs leave at a HOLD entry (06 R112, R132) -/

/-- No CLAIM of a key waits in a queue; one on the medium is withdrawn. -/
def claimsGone (k : Pos) (q : List TxEntry) : Prop :=
  ∀ e ∈ q, e.kind = .claim → e.record = some k → e.onMedium = true ∧ e.withdrawn = true

theorem mem_dropClaim {k : Pos} {s : State} {e : TxEntry} (h : e ∈ (dropClaim k s).lc.queue) :
    ∃ x ∈ s.lc.queue, (x.isClaimOf k = true → x.onMedium = true) ∧
      e = if x.isClaimOf k then { x with withdrawn := true } else x := by
  obtain ⟨x, hx, rfl⟩ := List.mem_map.1 h
  obtain ⟨hmem, hkept⟩ := List.mem_filter.1 hx
  refine ⟨x, hmem, fun hclaim => ?_, rfl⟩
  simpa [hclaim] using hkept

theorem dropClaim_gone {k : Pos} {s : State} (out : ∀ e ∈ s.lc.queue, e.withdrawn = true → e.onMedium = true) :
    claimsGone k (dropClaim k s).lc.queue := by
  intro e he hkind hrecord
  obtain ⟨x, hx, hmedium, rfl⟩ := mem_dropClaim he
  by_cases hclaim : x.isClaimOf k = true
  · simp [hclaim, hmedium hclaim]
  · simp only [hclaim, Bool.false_eq_true, ↓reduceIte] at hkind hrecord ⊢
    have hwithdrawn : x.withdrawn = true := by
      simpa [TxEntry.isClaimOf, hkind, hrecord] using hclaim
    exact ⟨out x hx hwithdrawn, hwithdrawn⟩

theorem dropClaim_keeps_gone (j : Pos) {k : Pos} {s : State} (h : claimsGone k s.lc.queue) :
    claimsGone k (dropClaim j s).lc.queue := by
  intro e he hkind hrecord
  obtain ⟨x, hx, -, rfl⟩ := mem_dropClaim he
  by_cases hclaim : x.isClaimOf j = true
  · simp only [hclaim, ↓reduceIte] at hkind hrecord ⊢
    exact ⟨(h x hx hkind hrecord).1, trivial⟩
  · simp only [hclaim, Bool.false_eq_true, ↓reduceIte] at hkind hrecord ⊢
    exact h x hx hkind hrecord

theorem dropClaim_out (j : Pos) {s : State} (out : ∀ e ∈ s.lc.queue, e.withdrawn = true → e.onMedium = true) :
    ∀ e ∈ (dropClaim j s).lc.queue, e.withdrawn = true → e.onMedium = true := by
  intro e he hwithdrawn
  obtain ⟨x, hx, hmedium, rfl⟩ := mem_dropClaim he
  by_cases hclaim : x.isClaimOf j = true
  · simp [hclaim, hmedium hclaim]
  · simp only [hclaim, Bool.false_eq_true, ↓reduceIte] at hwithdrawn ⊢
    exact out x hx hwithdrawn

theorem dropClaims_gone {k : Pos} (ks : List Pos) (hk : k ∈ ks) :
    ∀ {s : State}, (∀ e ∈ s.lc.queue, e.withdrawn = true → e.onMedium = true) →
      claimsGone k (ks.foldl (fun s k => dropClaim k s) s).lc.queue := by
  induction ks with
  | nil => cases hk
  | cons j ks ih =>
    intro s out
    obtain rfl | hk := List.mem_cons.1 hk
    · exact dropClaims_keeps (P := fun s => claimsGone k s.lc.queue) (fun j _ h => dropClaim_keeps_gone j h) ks
        (dropClaim_gone out)
    · exact ih hk (dropClaim_out j out)

theorem enqueue_keeps_gone {k : Pos} {es : List TxEntry} {s : State} (frames : ∀ e ∈ es, e.kind ≠ .claim)
    (h : claimsGone k s.lc.queue) : claimsGone k (enqueue es s).lc.queue := by
  intro e he hkind
  obtain hnew | hold := List.mem_append.1 ((enqueue_perm es s).mem_iff.1 he)
  · exact absurd hkind (frames e hnew)
  · exact h e hold hkind

theorem offer_keeps_gone {k : Pos} {es : List TxEntry} {s : State} (frames : ∀ e ∈ es, e.kind ≠ .claim)
    (h : claimsGone k s.lc.queue) : claimsGone k (offer es s).lc.queue := by
  obtain ⟨-, he⟩ | ⟨-, he⟩ := offer_cases es s <;> rw [he]
  · exact enqueue_keeps_gone frames h
  · exact h

theorem offerReports_keeps_gone {k : Pos} {s : State} (h : claimsGone k s.lc.queue) :
    claimsGone k (offerReports s).lc.queue := by
  refine offerReports_keeps (P := fun s => claimsGone k s.lc.queue) (fun r t _ h => ?_) h
  rw [sendReport, removeRecord_eq]
  exact enqueue_keeps_gone (by simp [pieceReport, newEntry]) h

theorem holdFrames_gone {k : Pos} {s : State} (hk : k ∈ keysIn .claiming s)
    (out : ∀ e ∈ s.lc.queue, e.withdrawn = true → e.onMedium = true) : claimsGone k (holdFrames s).lc.queue :=
  inAnyOrder_keeps (P := fun s => claimsGone k s.lc.queue) (fun _ _ h => h)
    (fun _ _ h => offer_keeps_gone (by simp [releaseEntry, newEntry]) h) _ _ (dropClaims_gone _ hk out)

/-! ### RELEASEs are queued at a HOLD entry (06 R132) -/

theorem offer_mem {es : List TxEntry} {s : State} {e : TxEntry} (h : e ∈ s.lc.queue) : e ∈ (offer es s).lc.queue := by
  obtain ⟨-, he⟩ | ⟨-, he⟩ := offer_cases es s <;> rw [he]
  · exact (enqueue_perm es s).mem_iff.2 (List.mem_append_right _ h)
  · exact h

/-- With room for all of them, every RELEASE is queued, whatever the order of the offers. -/
theorem releases_queued (n : Nat) : ∀ (ks : List Pos) (s : State), ks.length ≤ n → s.lc.queue.length + ks.length ≤ 8 →
    ∀ k ∈ ks, releaseEntry k ∈ (inAnyOrder (fun k s => offer [releaseEntry k] s) n ks s).lc.queue := by
  induction n with
  | zero =>
    intro ks s hn _ k hk
    rw [List.eq_nil_of_length_eq_zero (Nat.le_zero.1 hn)] at hk
    cases hk
  | succ n ih =>
    intro ks s hn room k hk
    cases ks with
    | nil => cases hk
    | cons j js =>
      unfold inAnyOrder
      have hlt := drawIndex_lt (n := (j :: js).length) s (by simp)
      have hqueue : (drawIndex (j :: js).length s).2.lc = s.lc := by
        obtain h | h := drawIndex_state (j :: js).length s <;> rw [h]
        rfl
      generalize drawIndex (j :: js).length s = drawn at hlt hqueue ⊢
      obtain ⟨i, u⟩ := drawn
      simp only at hlt hqueue ⊢
      rw [List.getElem?_eq_getElem hlt]
      have hlength : ((j :: js).eraseIdx i).length = js.length := by rw [List.length_eraseIdx_of_lt hlt]; rfl
      have hroom : u.lc.queue.length + 1 ≤ 8 := by
        rw [hqueue]
        simp only [List.length_cons] at room
        omega
      have hoffer : offer [releaseEntry (j :: js)[i]] u = enqueue [releaseEntry (j :: js)[i]] u := by
        rw [offer, if_pos (by exact (hasRoom_iff u _).2 hroom)]
      have hadded := (enqueue_perm [releaseEntry (j :: js)[i]] u).length_eq
      by_cases hki : k = (j :: js)[i]
      · subst hki
        refine inAnyOrder_keeps (P := fun v => releaseEntry (j :: js)[i] ∈ v.lc.queue) (fun _ _ h => h)
          (fun _ _ h => offer_mem h) n _ ?_
        rw [hoffer]
        exact (enqueue_perm _ u).mem_iff.2 (by simp)
      · refine ih _ _ (by rw [hlength]; simpa using hn) ?_ k ?_
        · rw [hoffer, hadded, hlength, hqueue]
          simp only [List.length_cons, List.length_append, List.length_nil] at room ⊢
          omega
        · obtain ⟨m, hm, rfl⟩ := List.getElem_of_mem hk
          refine List.mem_eraseIdx_iff_getElem.2 ⟨m, hm, ?_, rfl⟩
          rintro rfl
          exact hki rfl

theorem dropClaim_length (k : Pos) (s : State) : (dropClaim k s).lc.queue.length ≤ s.lc.queue.length := by
  simp only [dropClaim, State.setLc_lc, List.length_map]
  exact List.length_filter_le _ _

theorem holdFrames_releases {k : Pos} {s : State} (hk : k ∈ keysIn .claimed s)
    (room : s.lc.queue.length + (keysIn .claimed s).length ≤ 8) : releaseEntry k ∈ (holdFrames s).lc.queue := by
  refine releases_queued _ _ _ (le_refl _) (le_trans (Nat.add_le_add_right ?_ _) room) k hk
  exact dropClaims_keeps (P := fun u => u.lc.queue.length ≤ s.lc.queue.length)
    (fun j u h => (dropClaim_length j u).trans h) _ (le_refl _)

/-! ### The backward step (01 R1, R14) -/

/-- The state after the counters of a backward step, in the key order of its line position. -/
def backed (s : State) : State :=
  (s.setIp { s.ip with fired := [] }).setLpu (lpuBackward s.lpu) |>.setTable
    { s.table with records := sortByKey (lpuBackward s.lpu).linePos s.table.records }

theorem backwardStep_eq {s : State} (powered : s.loader.powered = true) :
    exec .backwardStep s =
      .next (if s.loader.config.tolerance < min (s.lpu.reversal + 1) 4095 then holdRequest .reversed (backed s)
        else backed s) := by
  change execBackwardStep s = _
  unfold execBackwardStep
  rw [if_neg (by simp [powered])]
  change (if s.loader.config.tolerance < min (s.lpu.reversal + 1) 4095 then Host.Outcome.next (holdRequest .reversed (backed s))
    else Host.Outcome.next (backed s)) = _
  split <;> rfl

/-- A HOLD entry by a reversal, block by block: the frames, the records given up, and the reports. -/
theorem holdRequest_running {why : HoldReason} {s : State} (running : s.running = true) :
    holdRequest why s =
      offerReports (giveUpRecords (holdFrames (s.setLoader { s.loader with mode := some .hold, reason := .hold why }))) := by
  rw [holdRequest, if_pos running, enterHold_eq]

/-- What a HOLD entry leaves: the books without reservations, no print owner, and the rest but for queue, records, entry
owner, walk and free count. -/
theorem holdRequest_beside {why : HoldReason} {s : State} (running : s.running = true) :
    ∃ q n rs o w, holdRequest why s =
      { s with
        loader := { s.loader with mode := some .hold, reason := .hold why }
        au := releasedAu s
        ip := { s.ip with owner := none }
        lc := { s.lc with queue := q }
        free := n
        table := { s.table with records := rs }
        lpu := { s.lpu with entryOwner := o }
        rater := { s.rater with walk := w } } := by
  rw [holdRequest_running running]
  obtain ⟨q, n, hframes⟩ := holdFrames_beside (s.setLoader { s.loader with mode := some .hold, reason := .hold why })
  rw [hframes, giveUpRecords_eq]
  obtain ⟨q', rs, o, w, hreports⟩ := offerReports_beside (giveUpRecords
    (((s.setLoader { s.loader with mode := some .hold, reason := .hold why }).setLc { s.lc with queue := q }).setFree n))
  rw [giveUpRecords_eq] at hreports
  exact ⟨q', n, rs, o, w, hreports⟩

/-- The records of a HOLD entry before the reports are offered (02 Table 2-6). -/
theorem holdRequest_records {why : HoldReason} {s : State} (running : s.running = true) :
    ∃ g : State, holdRequest why s = offerReports g ∧ g.table.records = s.table.records.filterMap recordAtHold ∧
      g.lc = (holdFrames (s.setLoader { s.loader with mode := some .hold, reason := .hold why })).lc := by
  refine ⟨_, holdRequest_running running, ?_, ?_⟩
  · obtain ⟨q, n, hframes⟩ := holdFrames_beside (s.setLoader { s.loader with mode := some .hold, reason := .hold why })
    rw [giveUpRecords_eq, hframes]
    rfl
  · rw [giveUpRecords_eq]

theorem holdRequest_exited {why : HoldReason} {s : State} (running : s.running = true) :
    ∀ q ∈ (holdRequest why s).table.records,
      q.presence = .exited ∧ ∃ r ∈ s.table.records, r.key = q.key ∧ (r.presence = .exited ∨ r.debitedHere = true) := by
  intro q hq
  obtain ⟨g, hg, hrecords, -⟩ := holdRequest_records (why := why) running
  rw [hg] at hq
  have hmem := offerReports_subset g hq
  rw [hrecords] at hmem
  obtain ⟨r, hr, hkept⟩ := List.mem_filterMap.1 hmem
  obtain ⟨hkey, hexited, hwas⟩ := recordAtHold_kept hkept
  exact ⟨hexited, r, hr, hkey.symm, hwas⟩

/-- Settles O20: the counters are those of the step, whether it enters HOLD or not. -/
theorem backwardStepCounts : Obligations.BackwardStepCounts := by
  intro s powered
  have hstep := backwardStep_eq powered
  by_cases hhold : s.loader.mode = some .running ∧ s.loader.config.tolerance < min (s.lpu.reversal + 1) 4095
  · obtain ⟨mode, tolerance⟩ := hhold
    have hrun : (backed s).running = true := running_of_mode mode
    obtain ⟨q, n, rs, o, w, hbeside⟩ := holdRequest_beside (why := .reversed) hrun
    rw [if_pos tolerance] at hstep
    have rest {α : Type} (f : State → α) := congrArg f hbeside
    refine ⟨_, hstep, rest (·.lpu.linePos), rest (·.lpu.tally), rest (·.lpu.reversal), rest (·.lpu.entryRun),
      rest (·.lpu.exitRun), fun _ _ => ⟨rest (·.loader.mode), rest (·.loader.reason), fun r hr => (holdRequest_exited hrun r hr).1⟩, fun h => ?_⟩
    exact absurd h (by simp [mode]; omega)
  · have hquiet : exec .backwardStep s = .next (backed s) := by
      rw [hstep]
      split
      · rename_i tolerance
        have hrun : (backed s).running = false := by
          simpa [State.running, backed] using fun h : s.loader.mode = some .running => hhold ⟨h, tolerance⟩
        rw [holdRequest_elsewhere _ hrun]
      · rfl
    exact ⟨_, hquiet, rfl, rfl, rfl, rfl, rfl, fun mode tolerance => absurd ⟨mode, tolerance⟩ hhold,
      fun _ => ⟨sortByKey_perm _ _, rfl, rfl, rfl⟩⟩

/-- A record that Table 2-6 keeps stands in the table after the HOLD entry, or its report is queued. -/
theorem holdRequest_keepsOrReports {why : HoldReason} {s : State} (running : s.running = true)
    (keys : ((s.table.records.filterMap recordAtHold).map (fun r => r.key)).Nodup) {r q : Record}
    (hr : r ∈ s.table.records) (kept : recordAtHold r = some q) : (holdRequest why s).keepsOrReports q := by
  obtain ⟨g, hg, hrecords, -⟩ := holdRequest_records (why := why) running
  rw [hg]
  exact offerReports_keepsOrReports (by rw [hrecords]; exact keys)
    (by rw [hrecords]; exact List.mem_filterMap.2 ⟨r, hr, kept⟩)

/-- Settles O22: the books, the frames and the records of a HOLD entry by a reversal. -/
theorem holdEntrySettlesTheRecords : Obligations.HoldEntrySettlesTheRecords := by
  intro s powered funds _ mode tolerance
  have hlaw := (fundsSound_iff s).1 funds
  have hrun : (backed s).running = true := running_of_mode mode
  have hperm : (backed s).table.records.Perm s.table.records := sortByKey_perm _ _
  have hstep := backwardStep_eq powered
  rw [if_pos tolerance] at hstep
  obtain ⟨q, n, rs, o, w, hbeside⟩ := holdRequest_beside (why := .reversed) hrun
  obtain ⟨g, hg, hrecords, hlc⟩ := holdRequest_records (why := .reversed) hrun
  have hkeys : (((backed s).table.records.filterMap recordAtHold).map (fun r => r.key)).Nodup :=
    ((hperm.filterMap recordAtHold).map _).nodup_iff.2
      (hlaw.hold (m := { s.loader with mode := some .hold }) rfl (by simp)).keys
  have hkept {r q : Record} (hr : r ∈ s.table.records) (kept : recordAtHold r = some q) :=
    holdRequest_keepsOrReports (why := .reversed) hrun hkeys (hperm.mem_iff.2 hr) kept
  have hreserved : (holdRequest .reversed (backed s)).au.reserved = 0 := by
    rw [hbeside]
    change s.au.reserved - ((backed s).table.records.map Record.held).sum = 0
    rw [(hperm.map Record.held).sum_eq, (hlaw.books powered).reserved, Nat.sub_self]
  have rest {α : Type} (f : State → α) := congrArg f hbeside
  refine ⟨_, hstep, hreserved, rest (·.au.committed), rest (·.au.queue), rest (·.au.write), rest (·.au.registers), rest (·.ip.owner),
    rest (·.inhibit), rest (·.cc), rest (·.wu), rest (·.table.horizon), rest (·.rater.jobs), rest (·.rater.cache),
    fun r hr => (holdRequest_exited hrun r hr).1,
    fun r hr present wait number => ?_, fun r hr => ⟨fun sound claiming => ?_, fun claimed room => ?_, fun exited => ?_,
      fun present claim outcome => ?_, fun present ended number => ?_⟩, fun q hq => ?_⟩
  · have hunready (x : Record) (hx : recordAtHold r = some x) (unready : x.reportReady = false) :
        x ∈ (holdRequest .reversed (backed s)).table.records := by
      rw [hg]
      exact offerReports_keeps_unready (by rw [hrecords]; exact hkeys)
        (by rw [hrecords]; exact List.mem_filterMap.2 ⟨r, hperm.mem_iff.2 hr, hx⟩) unready
    cases outcome : r.outcome with
    | none =>
      exact ⟨{ r with presence := .exited, outcome := some .spoiled, pass := .hold },
        hunready _ (by simp [recordAtHold, present, wait, outcome]) (by simp [Record.reportReady, Record.debitedHere, wait, number]),
        rfl, rfl, wait, rfl, fun _ => rfl, fun h => absurd rfl h⟩
    | some x =>
      exact ⟨{ r with presence := .exited },
        hunready _ (by simp [recordAtHold, present, wait, outcome]) (by simp [Record.reportReady, Record.debitedHere, wait, number]),
        rfl, rfl, wait, outcome, fun h => absurd h (by simp), fun _ => rfl⟩
  · have hgone : claimsGone r.key g.lc.queue := by
      rw [hlc]
      exact holdFrames_gone (List.mem_map.2 ⟨r, List.mem_filter.2 ⟨hperm.mem_iff.2 hr, by simp [claiming]⟩, rfl⟩)
        fun e he hw => ((sound.2.2.1 e he).2.2 hw).2
    intro e he hkind hrecord
    rw [hg] at he
    exact offerReports_keeps_gone hgone e he hkind hrecord
  · have hqueued : releaseEntry r.key ∈ g.lc.queue := by
      rw [hlc]
      refine holdFrames_releases (List.mem_map.2 ⟨r, List.mem_filter.2 ⟨hperm.mem_iff.2 hr, by simp [claimed]⟩, rfl⟩) ?_
      have hlength : (keysIn .claimed (backed s)).length = (s.table.records.filter (fun x => x.claim == .claimed)).length := by
        simp only [keysIn, List.length_map]
        exact (hperm.filter _).length_eq
      exact (congrArg (s.lc.queue.length + ·) hlength).trans_le room
    rw [hg]
    exact offerReports_keeps (P := fun u => releaseEntry r.key ∈ u.lc.queue) (fun x u _ h => by
      rw [sendReport, removeRecord_eq]
      exact (enqueue_perm _ u).mem_iff.2 (List.mem_append_right _ h)) hqueued
  · exact hkept hr (by simp [recordAtHold, exited])
  · exact hkept hr (by obtain h | h := claim <;> simp [recordAtHold, present, h, outcome])
  · exact hkept hr (by
      simp [recordAtHold, present, ended, Record.debitedHere, Option.isSome_iff_ne_none.2 number])
  · obtain ⟨-, r, hr, hkey, hwas⟩ := holdRequest_exited hrun q hq
    exact ⟨r, hperm.mem_iff.1 hr, hkey, hwas⟩

end Sys2Proof.Laws
end

section
/-! PROOFS. Walks: the three reads, their ends, and what the computation writes (05 R85 to R101). -/

namespace Sys2Proof.Laws
open Sys2Proof.Machine

/-! ### Formats (05 R85) -/

theorem classify_some {cpm length thickness mm : Nat} {m : Limits} {f : Format} (hmm : mm = length / cpm)
    (admits : (f = .standard ∧ mm ≤ m.lengthStandard ∧ thickness ≤ m.thickStandard) ∨
      (f = .bulky ∧ (m.lengthStandard < mm ∨ m.thickStandard < thickness) ∧ mm ≤ m.lengthBulky ∧
        thickness ≤ m.thickBulky) ∨
      (f = .oversize ∧ (m.lengthStandard < mm ∨ m.thickStandard < thickness) ∧
        (m.lengthBulky < mm ∨ m.thickBulky < thickness) ∧ mm ≤ m.lengthOversize ∧ thickness ≤ m.thickOversize)) :
    classify cpm m length thickness = some f := by
  subst hmm
  simp only [classify, Bool.and_eq_true, decide_eq_true_eq]
  obtain ⟨rfl, fits⟩ | ⟨rfl, small, fits⟩ | ⟨rfl, small, bulky, fits⟩ := admits
  · rw [if_pos fits]
  · rw [if_neg (by omega), if_pos fits]
  · rw [if_neg (by omega), if_neg (by omega), if_pos fits]

theorem classify_none {cpm length thickness mm : Nat} {m : Limits} (hmm : mm = length / cpm)
    (standard : m.lengthStandard < mm ∨ m.thickStandard < thickness)
    (bulky : m.lengthBulky < mm ∨ m.thickBulky < thickness)
    (oversize : m.lengthOversize < mm ∨ m.thickOversize < thickness) : classify cpm m length thickness = none := by
  subst hmm
  simp only [classify, Bool.and_eq_true, decide_eq_true_eq]
  rw [if_neg (by omega), if_neg (by omega), if_neg (by omega)]

/-! ### What a rating writes (05 R100, R101) -/

theorem writeRating_fault {r : Record} {k : Pos} (key : r.key = k) (why : RatingFault) (u : State) :
    writeRating k (.fault why) (holding r u) = holding { r with rating := some (.fault why), phase := .faulted } u :=
  updateRecord_holding key u _

theorem disputeTest_native {r : Record} {k : Pos} (key : r.key = k) (native : r.foreign = none) (u : State) :
    disputeTest k (holding r u) = holding r u := by
  unfold disputeTest
  rw [record_holding_of key]
  simp only [native]
  split
  · rename_i none_some
    cases none_some
  · rfl

theorem writeRating_rated {r : Record} {k : Pos} (key : r.key = k) (native : r.foreign = none) (p : RatingPart)
    (u : State) : writeRating k (.rated p) (holding r u) = holding { r with rating := some (.rated p), phase := .rated } u := by
  unfold writeRating
  simp only [updateRecord_holding key]
  exact disputeTest_native (by exact key) (by exact native) u

theorem takeRequests_none {s : State} (h : ∀ r ∈ s.table.records, r.waiting = false) : takeRequests s = s := by
  have hfind : s.table.records.find? (fun r => r.waiting) = none := by
    rw [List.find?_eq_none]
    exact fun r hr => by simp [h r hr]
  unfold takeRequests runRater
  rw [hfind]
  split <;> rfl

/-! ### The end of a walk (05 R92) -/

/-- The state of the port and the walk when a walk has ended. -/
def walkEnded (s : State) : State :=
  (s.setRater { s.rater with walk := none }).setTariff { s.tariff with port := none, marker := none }

theorem walkReadComplete_eq {s : State} {w : Walk} {stage : WalkStage} {act : Walk → State → State}
    (started : s.started = true) (port : s.tariff.port = some .walkRead) (walk : s.rater.walk = some w)
    (here : w.stage = stage) :
    walkReadComplete stage act s = portNext (act w (s.setTariff { s.tariff with port := none })) := by
  have powered : s.loader.powered = true := by
    simp only [State.started, Bool.and_eq_true] at started
    exact started.1
  simp [walkReadComplete, powered, port, walk, here]

/-- A walk that ends leaves the port to what waits; nothing waits here. -/
theorem endWalk_idle {s t : State} {w : Walk} {e : WalkEnd}
    (rated : rateAttached w e (fillAfter w e (walkEnded s)) = t) (resting : ∀ r ∈ t.table.records, r.waiting = false)
    (tariff : t.tariff = (walkEnded s).tariff) (walk : t.rater.walk = none) (writes : s.tariff.writes = [])
    (load : s.tariff.load = none) :
    portNext (endWalk w e (s.setTariff { s.tariff with port := none })) = t := by
  have hended : endWalk w e (s.setTariff { s.tariff with port := none }) = t := by
    change takeRequests (rateAttached w e (fillAfter w e (walkEnded s))) = t
    rw [rated, takeRequests_none resting]
  rw [hended, portNext_idle ⟨by rw [tariff]; rfl, walk, by rw [tariff]; exact writes, by rw [tariff]; exact load⟩]

/-- The end of a walk by a fault in the only record, to which it is attached. -/
theorem endWalk_faults {s : State} {w : Walk} {r : Record} {why : RatingFault} (records : s.table.records = [r])
    (resting : r.waiting = false) (attached : w.record = some r.key) (writes : s.tariff.writes = [])
    (load : s.tariff.load = none) :
    portNext (endWalk w (.fault why) (s.setTariff { s.tariff with port := none })) =
      holding { r with rating := some (.fault why), phase := .faulted } (walkEnded s) := by
  have hholding : holding r (walkEnded s) = walkEnded s := holding_self records
  refine endWalk_idle ?_ (by simpa using resting) rfl rfl writes load
  simp only [fillAfter, rateAttached, attached]
  rw [← hholding, record_holding]
  exact writeRating_fault rfl why _

/-- A walk that goes on has the port at once again (05 R91). -/
theorem continueWalk_eq {s : State} {w : Walk} (started : s.started = true) (port : s.tariff.port = some .walkRead) :
    portNext (continueWalk w (s.setTariff { s.tariff with port := none })) =
      s.setRater { s.rater with walk := some w } := by
  rw [portNext_walk (by exact started) rfl rfl]
  have htariff : { s.tariff with port := some .walkRead } = s.tariff := by rw [← port]
  change (s.setRater { s.rater with walk := some w }).setTariff { s.tariff with port := some .walkRead } = _
  rw [htariff]
  rfl

/-- Settles O38: at each of the three reads the error ends the walk. -/
theorem walkReadErrorEndsTheWalk : Obligations.WalkReadErrorEndsTheWalk := by
  intro c stage s w command started port walk here writes load
  have hexec : exec c s = .next (portNext (endWalk w (.fault .readError) (s.setTariff { s.tariff with port := none }))) := by
    obtain ⟨rfl, rfl⟩ | ⟨rfl, rfl⟩ | ⟨rfl, rfl⟩ := command
    · exact congrArg _ (walkReadComplete_eq (act := fun w => headerRead w true) started port walk here)
    · exact congrArg _ (walkReadComplete_eq (act := fun w => directoryRead w true) started port walk here)
    · exact congrArg _ (walkReadComplete_eq (act := fun w => stepsRead w true) started port walk here)
  rw [hexec]
  refine ⟨fun r records resting attached => ?_, fun resting detached => ?_⟩
  · rw [endWalk_faults records resting attached writes load]
    rfl
  · rw [endWalk_idle (t := walkEnded s) (by simp [fillAfter, rateAttached, detached]) resting rfl rfl writes load]
    rfl

/-- Settles O39: the header read classifies, and goes on or faults the record. -/
theorem headerReadClassifiesThePiece : Obligations.HeaderReadClassifiesThePiece := by
  intro s w m mm started port walk here hm hmm
  have hexec : exec (.headerReadComplete false) s =
      .next (portNext (headerRead w false (s.setTariff { s.tariff with port := none }))) :=
    congrArg _ (walkReadComplete_eq (act := fun w => headerRead w false) started port walk here)
  let filled := s.setRater { s.rater with limits := some m }
  have hread : headerRead w false (s.setTariff { s.tariff with port := none }) =
      match classify s.loader.config.cpm m w.length w.thickness with
      | none => endWalk w (.fault .formatRejected) (filled.setTariff { s.tariff with port := none })
      | some f =>
        if (s.tariff.slot w.slot).state = .active then
          match lookup s.rater.cache w.cls w.zone with
          | some l => endWalk { w with format := some f, stage := .directory } (.hit l)
              ((filled.setTariff { s.tariff with port := none }).setRater { filled.rater with cache := touch l s.rater.cache })
          | none => continueWalk { w with format := some f, stage := .directory }
              (filled.setTariff { s.tariff with port := none })
        else continueWalk { w with format := some f, stage := .directory }
          (filled.setTariff { s.tariff with port := none }) := by
    subst hm
    rfl
  rw [hexec, hread]
  refine ⟨fun f miss admits => ?_, fun r records resting attached writes load standard bulky oversize => ?_⟩
  · rw [classify_some hmm admits]
    have hcontinue := continueWalk_eq (s := filled) (w := { w with format := some f, stage := .directory }) started port
    by_cases hactive : (s.tariff.slot w.slot).state = .active
    · have hmiss := miss.resolve_left (fun h => h hactive)
      simp only [hactive, ↓reduceIte, hmiss]
      exact congrArg _ hcontinue
    · simp only [hactive, ↓reduceIte]
      exact congrArg _ hcontinue
  · rw [classify_none hmm standard bulky oversize]
    exact congrArg _ (endWalk_faults (s := filled) records resting attached writes load)

/-- Settles O40: the directory entry read goes on or faults the record. -/
theorem directoryReadFindsTheEntry : Obligations.DirectoryReadFindsTheEntry := by
  intro s w e started port walk here he
  have hexec : exec (.directoryEntryReadComplete false) s =
      .next (portNext (directoryRead w false (s.setTariff { s.tariff with port := none }))) :=
    congrArg _ (walkReadComplete_eq (act := fun w => directoryRead w false) started port walk here)
  have hread : directoryRead w false (s.setTariff { s.tariff with port := none }) =
      if !e.present then endWalk w (.fault .noEntry) (s.setTariff { s.tariff with port := none })
      else continueWalk { w with entry := some e, stage := .steps } (s.setTariff { s.tariff with port := none }) := by
    subst he
    rfl
  rw [hexec, hread]
  refine ⟨fun present => ?_, fun r records resting attached writes load absent => ?_⟩
  · rw [if_neg (by simp [present]), continueWalk_eq started port]
    rfl
  · rw [if_pos (by simp [absent]), endWalk_faults records resting attached writes load]
    rfl

/-! ### The computation (05 R98 to R101) -/

theorem ceilDiv_ten (n : Nat) : ceilDiv n 10 = (n + 9) / 10 := rfl

theorem findStep_none {steps : List Step} {weight : Nat} (h : ∀ x ∈ steps, x.bound < weight) :
    steps.findIdx? (fun t => weight ≤ t.bound) = none := by
  rw [List.findIdx?_eq_none_iff]
  exact fun x hx => decide_eq_false (Nat.not_le.2 (h x hx))

theorem findStep_some {front back : List Step} {chosen : Step} {weight : Nat} (passed : ∀ x ∈ front, x.bound < weight)
    (fits : weight ≤ chosen.bound) :
    (front ++ chosen :: back).findIdx? (fun t => weight ≤ t.bound) = some front.length := by
  simp [List.findIdx?_append, findStep_none passed, List.findIdx?_cons, fits]

section Stages

variable {image cap weight : Nat} {e : DirEntry} {steps : List Step} {f : Format} {service : Service} {flag : Bool}

theorem computeRating_barred (present : e.present = true) (barred : e.permits f = false) :
    computeRating image cap e steps f service weight flag = .fault .formatBarred := by
  simp [computeRating, present, barred]

theorem computeRating_overweight (present : e.present = true) (permitted : e.permits f = true) :
    computeRating image cap e steps f service weight true = .fault .overweight := by
  simp [computeRating, present, permitted]

theorem computeRating_overLastStep (present : e.present = true) (permitted : e.permits f = true)
    (passed : ∀ x ∈ steps, x.bound < weight) :
    computeRating image cap e steps f service weight false = .fault .overLastStep := by
  simp [computeRating, present, permitted, findStep_none passed]

/-- The step that is chosen gives the value, which the last two stages test. -/
theorem computeRating_chosen {front back : List Step} {chosen : Step} {value : Nat} (present : e.present = true)
    (permitted : e.permits f = true) (split : steps = front ++ chosen :: back) (passed : ∀ x ∈ front, x.bound < weight)
    (fits : weight ≤ chosen.bound) (hvalue : value = (amountOf e f service chosen.base + 9) / 10) :
    computeRating image cap e steps f service weight false =
      if value = 0 then .fault .zeroValue
      else if cap < value then .fault .overCap
      else .rated { image := image, step := front.length, value := value, frameSel := e.frameSel } := by
  subst split hvalue
  simp only [computeRating, present, permitted, findStep_some passed fits, Bool.not_true, Bool.false_eq_true, ↓reduceIte,
    ceilDiv_ten, List.getElem?_append_right (le_refl _), Nat.sub_self, List.getElem?_cons_zero, Option.map_some,
    Option.getD_some]

end Stages

/-- The end of a walk by its last read, in the only record, to which it is attached. -/
theorem endWalk_read {s : State} {w : Walk} {r q : Record} {e : DirEntry} {steps : List Step} {f : Format} {t : JobTerms}
    (records : s.table.records = [r]) (resting : r.waiting = false) (attached : w.record = some r.key)
    (format : w.format = some f) (terms : r.terms = some t) (writes : s.tariff.writes = []) (load : s.tariff.load = none)
    (rated : ∀ u, writeRating r.key (computeRating w.image s.loader.config.valueCap e steps f t.service
      (r.weighing.weight.getD 0) r.weighing.overFlag) (holding r u) = holding q u) (same : q.waiting = r.waiting) :
    portNext (endWalk w (.read e steps) (s.setTariff { s.tariff with port := none })) =
      { s with
        tariff := { s.tariff with port := none, marker := none }
        rater :=
          { s.rater with
            walk := none
            cache :=
              if w.noFill = false ∧ (s.tariff.slot w.slot).state = .active then
                fill { image := w.image, cls := w.cls, zone := w.zone, entry := e, steps := steps } s.rater.cache
              else s.rater.cache }
        table := { s.table with records := [q] } } := by
  have hfill : fillAfter w (.read e steps) (walkEnded s) = (walkEnded s).setRater
      { s.rater with
        walk := none
        cache :=
          if w.noFill = false ∧ (s.tariff.slot w.slot).state = .active then
            fill { image := w.image, cls := w.cls, zone := w.zone, entry := e, steps := steps } s.rater.cache
          else s.rater.cache } := by
    have hslot : (walkEnded s).tariff.slot w.slot = s.tariff.slot w.slot := by cases w.slot <;> rfl
    simp only [fillAfter, hslot, Bool.and_eq_true, Bool.not_eq_true', beq_iff_eq]
    split <;> rfl
  refine endWalk_idle (t := holding q ((walkEnded s).setRater _)) ?_ (by simp [same, resting]) rfl rfl writes load
  rw [hfill]
  generalize (if w.noFill = false ∧ (s.tariff.slot w.slot).state = .active then _ else _ : List (List RateLine)) = cache
  have hholding : holding r ((walkEnded s).setRater { s.rater with walk := none, cache := cache }) =
      (walkEnded s).setRater { s.rater with walk := none, cache := cache } := holding_self records
  rw [← hholding]
  simp only [rateAttached, attached, record_holding, format, rateRecord, terms]
  exact rated _

/-- The step table read is the last read of its walk. -/
theorem stepTableRead_eq {s : State} {w : Walk} {e : DirEntry} {steps : List Step} (started : s.started = true)
    (port : s.tariff.port = some .walkRead) (walk : s.rater.walk = some w) (here : w.stage = .steps)
    (entry : w.entry = some e)
    (hsteps : steps = parseSteps (memReadRun 104 (2068 + 104 * e.table) (s.tariff.area w.slot))) :
    exec (.stepTableReadComplete false) s =
      .next (portNext (endWalk w (.read e steps) (s.setTariff { s.tariff with port := none }))) := by
  have hread : stepsRead w false (s.setTariff { s.tariff with port := none }) =
      endWalk w (.read e steps) (s.setTariff { s.tariff with port := none }) := by
    subst hsteps
    simp only [stepsRead, Bool.false_eq_true, ↓reduceIte, entry]
    rfl
  exact congrArg _ ((walkReadComplete_eq (act := fun w => stepsRead w false) started port walk here).trans
    (congrArg portNext hread))

/-- Settles O41: the step that is chosen rates the piece, and each stage gives its fault. -/
theorem stepTableReadRatesThePiece : Obligations.StepTableReadRatesThePiece := by
  constructor
  · intro s w e f steps r t weight value started port walk here entry format present permitted hsteps records resting
      attached terms native hweight light writes load front chosen back split passed fits hvalue least most
    have hrating : computeRating w.image s.loader.config.valueCap e steps f t.service (r.weighing.weight.getD 0)
        r.weighing.overFlag =
          .rated { image := w.image, step := front.length, value := value, frameSel := e.frameSel } := by
      rw [hweight, light, Option.getD_some, computeRating_chosen present permitted split passed fits hvalue,
        if_neg (by omega), if_neg (by omega)]
    rw [stepTableRead_eq started port walk here entry hsteps]
    exact congrArg _ (endWalk_read records resting attached format terms writes load
      (fun u => by rw [hrating]; exact writeRating_rated rfl native _ u) rfl)
  · intro s w e f steps r t weight why started port walk here entry format present hsteps records resting attached terms
      hweight writes load reason
    have hrating : computeRating w.image s.loader.config.valueCap e steps f t.service (r.weighing.weight.getD 0)
        r.weighing.overFlag = .fault why := by
      rw [hweight, Option.getD_some]
      obtain ⟨rfl, barred⟩ | ⟨rfl, permitted, heavy⟩ | ⟨permitted, light, reason⟩ := reason
      · exact computeRating_barred present barred
      · rw [heavy]
        exact computeRating_overweight present permitted
      · rw [light]
        obtain ⟨rfl, passed⟩ | ⟨front, chosen, back, value, split, passed, fits, hvalue, reason⟩ := reason
        · exact computeRating_overLastStep present permitted passed
        · rw [computeRating_chosen present permitted split passed fits hvalue]
          obtain ⟨rfl, hzero⟩ | ⟨rfl, least, above⟩ := reason
          · rw [if_pos hzero]
          · rw [if_neg (by omega), if_pos above]
    rw [stepTableRead_eq started port walk here entry hsteps]
    exact congrArg _ (endWalk_read records resting attached format terms writes load
      (fun u => by rw [hrating]; exact writeRating_fault rfl why u) rfl)

end Sys2Proof.Laws
end

section
/-! PROOFS. The end of weighing at Pe with the request that follows it, and a sample that comes together with it (03 R48 to R51,
05 R83 to R91). -/

namespace Sys2Proof.Laws
open Sys2Proof.Machine

/-! ### The request of one record (05 R84 to R87) -/

/-- The RE, idle, takes the only request; it is idle again, or a walk has started. -/
theorem takeRequests_one {x : Record} {u t : State} (asking : x.waiting = true) (walk : u.rater.walk = none)
    (taken : takeRequest x (holding x u) = t)
    (rest : t.rater.walk.isSome = true ∨ ∀ r ∈ t.table.records, r.waiting = false) :
    takeRequests (holding x u) = t := by
  have hfirst : takeRequests (holding x u) = runRater 1 t := by
    simp only [takeRequests, holding_records, List.length_cons, List.length_nil, runRater, holding_rater, walk,
      Option.isSome_none, Bool.false_eq_true, ↓reduceIte, List.find?_cons, asking, taken]
  rw [hfirst, runRater]
  obtain hwalk | hnone := rest
  · rw [if_pos hwalk]
  · have hfind : t.table.records.find? (fun r => r.waiting) = none := by
      rw [List.find?_eq_none]
      exact fun r hr => by simp [hnone r hr]
    rw [hfind]
    split <;> rfl

/-- The record whose request has been taken. -/
def taken (x : Record) : Record := { x with waiting := false }

theorem taken_update (x : Record) (u : State) :
    (holding x u).updateRecord x.key (fun r => { r with waiting := false }) = holding (taken x) u :=
  updateRecord_holding rfl u _

theorem takeRequest_noJob {x : Record} {u : State} (terms : x.terms = none) :
    takeRequest x (holding x u) = holding { taken x with rating := some (.fault .noJob), phase := .faulted } u := by
  simp only [takeRequest, taken_update, terms]
  exact writeRating_fault rfl _ u

theorem takeRequest_noTariff {x : Record} {u : State} {t : JobTerms} (terms : x.terms = some t)
    (inactive : u.tariff.active = none) :
    takeRequest x (holding x u) = holding { taken x with rating := some (.fault .noTariff), phase := .faulted } u := by
  simp only [takeRequest, taken_update, terms, holding_tariff, inactive]
  exact writeRating_fault rfl _ u

/-- A walk that starts for the only record. -/
theorem startWalk_holding {x y : Record} {u : State} {t : JobTerms} {id : SlotId} {stage : WalkStage} {f : Option Format}
    (key : y.key = x.key) :
    startWalk x t id stage f (holding y u) =
      holding { y with phase := .rating }
        ((u.setRater
          { u.rater with
            walk := some
              { record := some x.key, slot := id, image := (u.tariff.slot id).image, cls := t.cls, zone := t.zone,
                length := x.length.getD 0, thickness := x.thickness, stage := stage, format := f, entry := none,
                noFill := false } }).setTariff { u.tariff with marker := some id }) := by
  simp only [startWalk, updateRecord_holding key]
  rfl

theorem takeRequest_header {x : Record} {u : State} {t : JobTerms} {id : SlotId} (terms : x.terms = some t)
    (active : u.tariff.active = some id)
    (unfit : u.rater.limits = none ∨ ∃ m, u.rater.limits = some m ∧ m.image ≠ (u.tariff.slot id).image) :
    takeRequest x (holding x u) = startWalk x t id .header none (holding (taken x) u) := by
  simp only [takeRequest, taken_update, terms, holding_tariff, active, holding_rater]
  obtain none | ⟨m, some, other⟩ := unfit
  · simp only [none]
  · simp only [some, ne_eq, other, not_false_eq_true, ↓reduceIte]

section Fitting

variable {x : Record} {u : State} {t : JobTerms} {id : SlotId} {m : Limits} (terms : x.terms = some t)
  (active : u.tariff.active = some id) (limits : u.rater.limits = some m) (image : m.image = (u.tariff.slot id).image)
include terms active limits image

theorem takeRequest_rejected (format : classify u.loader.config.cpm m (x.length.getD 0) x.thickness = none) :
    takeRequest x (holding x u) = holding { taken x with rating := some (.fault .formatRejected), phase := .faulted } u := by
  simp only [takeRequest, taken_update, terms, holding_tariff, active, holding_rater, limits, image, ne_eq, not_true_eq_false,
    ↓reduceIte, holding_loader, format]
  exact writeRating_fault rfl _ u

theorem takeRequest_miss {f : Format} (format : classify u.loader.config.cpm m (x.length.getD 0) x.thickness = some f)
    (miss : lookup u.rater.cache t.cls t.zone = none) :
    takeRequest x (holding x u) = startWalk x t id .directory (some f) (holding (taken x) u) := by
  simp only [takeRequest, taken_update, terms, holding_tariff, active, holding_rater, limits, image, ne_eq, not_true_eq_false,
    ↓reduceIte, holding_loader, format, miss]

theorem takeRequest_hit {f : Format} {l : RateLine}
    (format : classify u.loader.config.cpm m (x.length.getD 0) x.thickness = some f)
    (hit : lookup u.rater.cache t.cls t.zone = some l) :
    takeRequest x (holding x u) =
      writeRating x.key
        (computeRating l.image u.loader.config.valueCap l.entry l.steps f t.service (x.weighing.weight.getD 0)
          x.weighing.overFlag)
        (holding (taken x) (u.setRater { u.rater with cache := touch l u.rater.cache })) := by
  simp only [takeRequest, taken_update, terms, holding_tariff, active, holding_rater, limits, image, ne_eq, not_true_eq_false,
    ↓reduceIte, holding_loader, format, hit, rateRecord]
  rfl

end Fitting

/-! ### The rate line cache (05 R86, R87) -/

theorem isFor_iff {cls zone : Nat} {l : RateLine} : l.isFor cls zone = true ↔ l.cls = cls ∧ l.zone = zone := by
  simp [RateLine.isFor]

theorem isFor_false {cls zone : Nat} {l : RateLine} (h : l.cls ≠ cls ∨ l.zone ≠ zone) : l.isFor cls zone = false := by
  rw [Bool.eq_false_iff, ne_eq, isFor_iff]
  tauto

section Cache

variable {cache : List (List RateLine)} {cls zone : Nat} {lines : List RateLine}
  (held : cache[(cls + zone) % 8]? = some lines)
include held

theorem linesOf_held : linesOf cache cls zone = lines := by
  unfold linesOf
  rw [List.getD_eq_getElem?_getD, show cache[setOf cls zone]? = some lines from held, Option.getD_some]

theorem lookup_miss (other : ∀ x ∈ lines, x.cls ≠ cls ∨ x.zone ≠ zone) : lookup cache cls zone = none := by
  rw [lookup, linesOf_held held, List.find?_eq_none]
  exact fun x hx => by simp [isFor_false (other x hx)]

theorem lookup_hit {front back : List RateLine} {line : RateLine} (split : lines = front ++ line :: back)
    (hcls : line.cls = cls) (hzone : line.zone = zone) (other : ∀ x ∈ front ++ back, x.cls ≠ cls ∨ x.zone ≠ zone) :
    lookup cache cls zone = some line := by
  rw [lookup, linesOf_held held, split, List.find?_append, List.find?_eq_none.2 fun x hx => by
    simp [isFor_false (other x (List.mem_append_left _ hx))]]
  simp [isFor_iff.2 ⟨hcls, hzone⟩]

theorem touch_hit {front back : List RateLine} {line : RateLine} (split : lines = front ++ line :: back)
    (hcls : line.cls = cls) (hzone : line.zone = zone) (other : ∀ x ∈ front ++ back, x.cls ≠ cls ∨ x.zone ≠ zone) :
    touch line cache = cache.set ((cls + zone) % 8) (line :: (front ++ back)) := by
  have hkept : lines.filter (fun x => !x.isFor cls zone) = front ++ back := by
    have hself : line.isFor cls zone = true := isFor_iff.2 ⟨hcls, hzone⟩
    rw [split, List.filter_append, List.filter_cons_of_neg (by simp [hself]), ← List.filter_append, List.filter_eq_self]
    exact fun x hx => by simp [isFor_false (other x hx)]
  subst hcls hzone
  rw [touch, linesOf_held held, hkept]
  rfl

end Cache

/-! ### The end of weighing (03 R48, R49) -/

theorem weighed_eq {w : Weighing} {band low high : Nat} {settled : Bool} (lowest : w.min = some low)
    (highest : w.max = some high) (hsettled : settled = decide (high - low ≤ band)) :
    weighed band w =
      { w with settled := settled, weight := some (if settled then (w.sum + w.count - 1) / w.count else high) } := by
  have his : isSettled band w = settled := by rw [hsettled, isSettled, lowest, highest]; rfl
  rw [weighed, his, highest]
  rfl

theorem endOfWeighing_short {q : Record} {u : State} (measuring : q.phase = .measuring)
    (short : q.weighing.count < u.loader.config.minSamples) :
    endOfWeighing q.key (holding q u) = holding { q with phase := .faulted, pass := .noWeight } u := by
  simp only [endOfWeighing, record_holding, measuring, ne_eq, not_true_eq_false, ↓reduceIte, holding_loader, short]
  exact updateRecord_holding rfl u _

theorem endOfWeighing_enough {q : Record} {u : State} (measuring : q.phase = .measuring)
    (enough : u.loader.config.minSamples ≤ q.weighing.count) :
    endOfWeighing q.key (holding q u) =
      takeRequests (holding { q with phase := .weighed, waiting := true,
                                     weighing := weighed u.loader.config.settleBand q.weighing } u) := by
  simp only [endOfWeighing, record_holding, measuring, ne_eq, not_true_eq_false, ↓reduceIte, holding_loader,
    Nat.not_lt.2 enough]
  exact congrArg _ (updateRecord_holding rfl u _)

/-- The only record reaches Pe; D is still ahead. -/
theorem forwardStep_weighs {a b : Bool} {s u : State} {r q : Record} (clear : s.beltClear)
    (only : s.onlyRecord r s.loader.config.pe) (ordered : s.loader.config.ordered = true)
    (bound : s.loader.config.x ≤ 4095) (awaits : r.awaits = .pe)
    (arrival : endOfWeighing r.key (holding { r with awaits := .d } (s.stepped a b)) = holding q u)
    (lpu : u.lpu = (s.stepped a b).lpu) (config : u.loader.config = s.loader.config)
    (present : q.presence = r.presence) (sighted : q.sightPos = r.sightPos) (next : q.awaits = .d) :
    exec (.forwardStep a b) s = .next (portNext (holding q u)) := by
  obtain ⟨-, hd, hk, hs, hx⟩ := ordered_landmarks ordered
  have hpresent := only.2.1
  refine forwardStep_only (n := s.loader.config.d) (State.beltClear.runs clear a b) only (by rw [awaits]; rfl) ?_ lpu config
    (by simp [present, hpresent]) sighted (by rw [next]; rfl) hd (by omega)
  rw [awaits]
  exact arrival

/-- A record with its weighing part, as its request is made. -/
def weighedAtPe (settled : Bool) (weight : Nat) (r : Record) : Record :=
  { r with
    awaits := .d, phase := .weighed, waiting := true,
    weighing := { r.weighing with settled := settled, weight := some weight } }

/-- At Pe with enough samples, the RE takes the request of the record at once. -/
theorem forwardStep_asks {a b : Bool} {s u : State} {r q : Record} {low high weight : Nat} {settled : Bool}
    (clear : s.beltClear) (only : s.onlyRecord r s.loader.config.pe) (ordered : s.loader.config.ordered = true)
    (bound : s.loader.config.x ≤ 4095) (awaits : r.awaits = .pe) (measuring : r.phase = .measuring)
    (enough : s.loader.config.minSamples ≤ r.weighing.count) (lowest : r.weighing.min = some low)
    (highest : r.weighing.max = some high) (hsettled : settled = decide (high - low ≤ s.loader.config.settleBand))
    (hweight : weight = if settled then (r.weighing.sum + r.weighing.count - 1) / r.weighing.count else high)
    (request : takeRequest (weighedAtPe settled weight r) (holding (weighedAtPe settled weight r) (s.stepped a b)) =
      holding q u)
    (rest : u.rater.walk.isSome = true ∨ q.waiting = false)
    (lpu : u.lpu = (s.stepped a b).lpu) (config : u.loader.config = s.loader.config)
    (present : q.presence = r.presence) (sighted : q.sightPos = r.sightPos) (next : q.awaits = .d) :
    exec (.forwardStep a b) s = .next (portNext (holding q u)) := by
  refine forwardStep_weighs clear only ordered bound awaits ?_ lpu config present sighted next
  have hweighing := endOfWeighing_enough (q := { r with awaits := .d }) (u := s.stepped a b) measuring enough
  have hpart : weighed (s.stepped a b).loader.config.settleBand r.weighing = _ := weighed_eq lowest highest hsettled
  rw [hpart, ← hweight] at hweighing
  refine hweighing.trans (takeRequests_one rfl (by exact clear.2.2.2.2.2.2.2.1) request ?_)
  exact rest.imp id fun h => by simp [h]

/-! ### A sample that comes with the step to Pe (03 R44, R51) -/

/-- The position before the one of a travel. -/
theorem linePos_before {linePos p : Pos} {n : Nat} (h : linePos + 1#24 = p + pos (n + 1)) : linePos = p + BitVec.ofNat 24 n := by
  rw [pos, BitVec.ofNat_add, ← BitVec.add_assoc] at h
  exact add_right_cancel h

/-- One count before Pe, the record overlaps the platform and is not yet fully on it. -/
theorem sample_before_pe {s : State} {r : Record} {l : Nat} (only : s.onlyRecord r s.loader.config.pe)
    (length : r.length = some l) (span : l + s.loader.config.ps = s.loader.config.pe)
    (apart : s.loader.config.ps < s.loader.config.pe) (bound : s.loader.config.pe ≤ 4095) :
    attributedAt s.lpu.linePos s = none ∧ platformEmpty s = false := by
  obtain ⟨records, present, -, p, sighted, here⟩ := only
  obtain ⟨n, hn⟩ : ∃ n, s.loader.config.pe = n + 1 := ⟨s.loader.config.pe - 1, by omega⟩
  rw [hn] at here span apart bound
  have hlead : leading s.lpu.linePos r = some n := by
    rw [linePos_before here]
    exact leading_passed sighted (by omega)
  have hedge : atLeast (trailing s.lpu.linePos r) s.loader.config.ps = false ∧
      atMost (trailing s.lpu.linePos r) s.loader.config.pe = true := by
    by_cases hl : l ≤ n
    · rw [linePos_before here, trailing_passed sighted length hl (by omega)]
      simp only [atLeast, atMost, decide_eq_false_iff_not, decide_eq_true_eq]
      omega
    · have hahead : precedes (p + BitVec.ofNat 24 n) (p + pos l) = true := precedes_travel p (by omega) (by omega)
      rw [linePos_before here]
      simp only [trailing, sighted, length]
      rw [if_pos hahead]
      exact ⟨rfl, rfl⟩
  obtain ⟨hbehind, hbefore⟩ := hedge
  constructor
  · have hoff : fullyOn s.loader.config s.lpu.linePos r = false := by simp [fullyOn, hbehind]
    simp [attributedAt, records, hoff]
  · have hon : overlaps s.loader.config s.lpu.linePos r = true := by
      have hpassed : s.loader.config.ps ≤ n := by omega
      simp [overlaps, present, hlead, atLeast, hpassed, hbefore]
    simp [platformEmpty, records, hon]

/-- At Pe, the coming step attributes the sample to the record. -/
theorem attributedAtPe_waits {s : State} {r : Record} {l : Nat} (waits : s.stepWaits = true)
    (only : s.onlyRecord r s.loader.config.pe) (awaits : r.awaits = .pe) (measuring : r.phase = .measuring)
    (length : r.length = some l) (span : l + s.loader.config.ps = s.loader.config.pe) (bound : s.loader.config.pe ≤ 4095) :
    attributedAtPe s = some r := by
  obtain ⟨records, present, -, p, sighted, here⟩ := only
  have hlead : leading (s.lpu.linePos + 1#24) r = some s.loader.config.pe := by
    rw [here]
    exact leading_passed sighted (by omega)
  have hon : fullyOn s.loader.config (s.lpu.linePos + 1#24) r = true := by
    rw [here]
    exact fullyOn_passed present sighted length (by omega) (by omega) (by omega) (le_refl _)
  simp [attributedAtPe, waits, attributedAt_single records measuring hon, Option.filter, awaits, hlead]

/-- Settles O31: too few samples, then each way the request of a weighed record is taken, then the sample at Pe. -/
theorem weighingEndsAtPe : Obligations.WeighingEndsAtPe := by
  refine ⟨?_, ?_, ?_⟩
  · intro a b s r clear only ordered bound awaits measuring
    refine ⟨fun short => ?_, fun low high settled enough _ lowest highest terms hsettled => ?_⟩
    · rw [forwardStep_weighs clear only ordered bound awaits
        (endOfWeighing_short (q := { r with awaits := .d }) (u := s.stepped a b) measuring short) rfl rfl rfl rfl rfl,
        portNext_idle (by exact clear.2.2.2.2.2.2)]
      rfl
    · rw [forwardStep_asks (u := s.stepped a b) clear only ordered bound awaits measuring enough lowest highest hsettled rfl
        (takeRequest_noJob (by exact terms)) (.inr rfl) rfl rfl rfl rfl rfl, portNext_idle (by exact clear.2.2.2.2.2.2)]
      rfl
  · intro a b s r q t l low high weight settled clear only ordered bound awaits measuring enough _ lowest highest terms length
      hsettled hweight hq
    have idle : s.portIdle := clear.2.2.2.2.2.2
    have hstarted : s.started = true := started_of_mode clear.1 clear.2.1
    have hlength : (weighedAtPe settled weight r).length.getD 0 = l := by rw [weighedAtPe, length]; rfl
    have asks {x : Record} {u : State} := forwardStep_asks (a := a) (b := b) (q := x) (u := u) clear only ordered bound awaits
      measuring enough lowest highest hsettled hweight
    have hqt : q = taken (weighedAtPe settled weight r) := hq
    subst hqt
    have fits {m : Limits} {f : Option Format}
        (admits : classify s.loader.config.cpm m l r.thickness = f) :
        classify (s.stepped a b).loader.config.cpm m ((weighedAtPe settled weight r).length.getD 0)
          (weighedAtPe settled weight r).thickness = f := by rw [hlength]; exact admits
    have walks {id : SlotId} {stage : WalkStage} {f : Option Format}
        (request : takeRequest (weighedAtPe settled weight r) (holding (weighedAtPe settled weight r) (s.stepped a b)) =
          startWalk (weighedAtPe settled weight r) t id stage f
            (holding (taken (weighedAtPe settled weight r)) (s.stepped a b))) :
        exec (.forwardStep a b) s = .next (holding { taken (weighedAtPe settled weight r) with phase := .rating }
          (((s.stepped a b).setRater
            { s.rater with
              walk := some
                { record := some r.key, slot := id, image := (s.tariff.slot id).image, cls := t.cls, zone := t.zone,
                  length := l, thickness := r.thickness, stage := stage, format := f, entry := none,
                  noFill := false } }).setTariff { s.tariff with marker := some id, port := some .walkRead })) := by
      rw [asks (x := { taken (weighedAtPe settled weight r) with phase := .rating })
        (request.trans (startWalk_holding rfl)) (.inl rfl) rfl rfl rfl rfl rfl,
        portNext_walk (by exact hstarted) (by exact idle.1) rfl, hlength]
      rfl
    refine ⟨fun inactiveA inactiveB => ?_, fun id walk active hwalk => ⟨fun unfit => ?_, fun m mm limits image hmm =>
      ⟨fun standard bulky oversize => ?_, fun f lines admits held => ⟨fun other => ?_, ?_⟩⟩⟩⟩
    · have hnone : (s.stepped a b).tariff.active = none := by
        change s.tariff.active = none
        simp [Tariff.active, inactiveA, inactiveB]
      rw [asks (u := s.stepped a b) (takeRequest_noTariff (by exact terms) hnone) (.inr rfl) rfl rfl rfl rfl rfl,
        portNext_idle (by exact idle)]
      rfl
    · rw [walks (takeRequest_header (by exact terms) active unfit), hwalk]
      rfl
    · rw [asks (u := s.stepped a b) (takeRequest_rejected (by exact terms) active limits image
        (fits (classify_none hmm standard bulky oversize))) (.inr rfl) rfl rfl rfl rfl rfl,
        portNext_idle (by exact idle)]
      rfl
    · rw [walks (takeRequest_miss (u := s.stepped a b) (by exact terms) active limits image (fits (classify_some hmm admits)) (lookup_miss held other)), hwalk]
      rfl
    · intro front line back result phase split hcls hzone other native hresult hphase
      have hhit := takeRequest_hit (x := weighedAtPe settled weight r) (u := s.stepped a b) (by exact terms) active limits image
        (fits (classify_some hmm admits)) (lookup_hit held split hcls hzone other)
      rw [touch_hit (cache := (s.stepped a b).rater.cache) held split hcls hzone other] at hhit
      have hcomputed : computeRating line.image (s.stepped a b).loader.config.valueCap line.entry line.steps f t.service
          ((weighedAtPe settled weight r).weighing.weight.getD 0) (weighedAtPe settled weight r).weighing.overFlag = result :=
        hresult.symm
      rw [hcomputed] at hhit
      obtain ⟨rfl, part, rfl⟩ | ⟨rfl, why, rfl⟩ := hphase
      · rw [asks (hhit.trans (writeRating_rated rfl (by exact native) part _)) (.inr rfl) rfl rfl rfl rfl rfl,
          portNext_idle (by exact idle)]
        rfl
      · rw [asks (hhit.trans (writeRating_fault rfl why _)) (.inr rfl) rfl rfl rfl rfl rfl, portNext_idle (by exact idle)]
        rfl
  · intro raw s r l powered mode only awaits measuring length span apart bound
    obtain ⟨hnone, hoccupied⟩ := sample_before_pe only length span apart bound
    have hexec : exec (.sampleArrival raw) s =
        match attributedAtPe s with
        | some r => .next (if (drawIndex 2 s).1 = 0 then takeSample raw.toInt r.key (drawIndex 2 s).2 else (drawIndex 2 s).2)
        | none => .next s := by
      change execSampleArrival raw s = _
      unfold execSampleArrival
      rw [if_neg (by simp [powered, running_of_mode mode]), hnone]
      simp only [hoccupied, Bool.false_eq_true, ↓reduceIte] <;> rfl
    rw [hexec]
    refine ⟨fun a b rest pending => ?_, fun pending => ?_⟩
    · have hwaits : s.stepWaits = true := by simp [State.stepWaits, pending]
      rw [attributedAtPe_waits hwaits only awaits measuring length span bound]
      have hdrawn : (drawIndex 2 s).2 = s.setFree (s.free + 1) := rfl
      simp only [hdrawn]
      split
      · right
        rw [takeSample, updateRecord_single (s := s.setFree (s.free + 1)) (by exact only.1)]
        rfl
      · exact .inl rfl
    · have hwaits : s.stepWaits = false := by
        unfold State.stepWaits
        split
        · rename_i a b h
          exact absurd h (pending a b)
        · rfl
      simp [attributedAtPe, hwaits]

end Sys2Proof.Laws
end

section
/-! PROOFS. The arrival at S, with column 0 on the same step (08 R157 to R162, 07 R144). -/

namespace Sys2Proof.Laws
open Sys2Proof.Machine

/-! ### Two arrivals of one record on one step -/

/-- The only record, PRESENT, reaches a target on a step, and at once the next one, after which nothing is due. -/
theorem forwardStep_twice {a b : Bool} {s u v : State} {r q x : Record} {m n : Nat} (belt : BeltRuns a b s)
    (only : s.onlyRecord r m) (travel : r.awaits.travel s.loader.config = some m)
    (first : handArrival r.key r.awaits
      (holding { r with awaits := r.awaits.after s.loader.config.width } (s.stepped a b)) = holding q u)
    (lpu : u.lpu = (s.stepped a b).lpu) (loader : u.loader = s.loader) (present : q.presence = .present)
    (since : q.beforeReset = false) (sighted : q.sightPos = r.sightPos)
    (again : q.awaits.travel s.loader.config = some m)
    (second : handArrival q.key q.awaits
      (holding { q with awaits := q.awaits.after s.loader.config.width } u) = holding x v)
    (lpu' : v.lpu = (s.stepped a b).lpu) (loader' : v.loader = s.loader) (present' : x.presence ≠ .noticed)
    (sighted' : x.sightPos = r.sightPos) (next : x.awaits.travel s.loader.config = some n) (ahead : m < n)
    (bound : n ≤ 8388607) (idle : v.portIdle) : exec (.forwardStep a b) s = .next (holding x v) := by
  have due := onlyRecord_due only travel
  obtain ⟨records, isPresent, isSince, p, hsighted, here⟩ := only
  have hstepped : holding r (s.stepped a b) = s.stepped a b := holding_self records
  have hrun : u.running = true := by rw [State.running, loader]; exact running_of_mode belt.mode
  have hreach : reachTarget r.key (s.stepped a b) = holding q u := by
    rw [← hstepped, reachTarget_holding (s := s.stepped a b) (running_of_mode belt.mode) isPresent isSince]
    exact first
  have hreach' : reachTarget q.key (holding q u) = holding x v := by
    rw [reachTarget_holding hrun present since, loader]
    exact second
  have hdue : dueEvents false (holding q u) = [.target q.key] := by
    rw [dueEvents_holding (by rw [lpu]; exact belt.clearance), loader, lpu, if_pos]
    rw [targetDue_awaited (by simp [present]) (awaitedAt_of_travel (sighted.trans hsighted) again)]
    change atOrPast (s.lpu.linePos + 1#24) _ = true
    rw [here, atOrPast_self]
  have hquiet : dueEvents false (holding x v) = [] := by
    rw [dueEvents_holding (by rw [lpu']; exact belt.clearance), loader', lpu',
      if_neg (by simp [targetDue_ahead present' (sighted'.trans hsighted) (linePos := (s.stepped a b).lpu.linePos) here next
        ahead bound])]
  rw [forwardStep_reaches belt records due, hreach, stepEvents_one hdue]
  change Host.Outcome.next (portNext (stepEvents _ false (reachTarget q.key (holding q u)))) = _
  rw [hreach', stepEvents_none hquiet, portNext_idle (by exact idle)]

/-! ### The arrival at S of a single record (08 R160, 07 R144) -/

/-- The print owner that an ARMED record becomes. -/
def printing (content : PrintContent) (key : Pos) (u : State) : State :=
  u.setIp { u.ip with owner := some { key := key, content := content } }

theorem contentOf_eq {s : State} {r : Record} {p : RatingPart} {n : Nat} {d : StationDate}
    (rating : r.rating = some (.rated p)) (number : r.pieceNumber = some n) (date : s.tariff.date = some d) :
    contentOf s r =
      { value := p.value, frameSel := p.frameSel, number := n, day := d.day, month := d.month, year := d.year,
        serial := s.loader.config.serial } := by
  simp [contentOf, ratingOf, rating, number, date]

theorem startPrinting_armed {q : Record} {u : State} (armed : q.claim = .armed) (owner : u.ip.owner = none) :
    startPrinting q.key (holding q u) =
      holding { q with claim := .printing, print := some { next := 0, dropped := 0 } }
        (printing (contentOf u q) q.key u) := by
  simp only [startPrinting, record_holding, armed, ne_eq, not_true_eq_false, ↓reduceIte, holding_ip, owner]
  rw [updateRecord_holding rfl]
  rfl

theorem arriveAtS_armed {q : Record} {u : State} (armed : q.claim = .armed) (owner : u.ip.owner = none) :
    arriveAtS q.key (holding q u) =
      holding { q with claim := .printing, print := some { next := 0, dropped := 0 } }
        (printing (contentOf u q) q.key u) := by
  rw [arriveAtS, startPrinting_armed armed owner]
  exact updateRecord_holding (r := { q with claim := .printing, print := some { next := 0, dropped := 0 } }) rfl _ _

theorem arriveAtS_debitWait {q : Record} {u : State} (wait : q.claim = .debitWait) :
    arriveAtS q.key (holding q u) = holding { q with outcome := some .spoiled, pass := .lateDebit } u := by
  have hstart : startPrinting q.key (holding q u) = holding q u := by simp [startPrinting, wait]
  rw [arriveAtS, hstart, skipLateDebit, updateRecord_holding rfl, if_pos wait]

theorem arriveAtColumn_unowned {k : Pos} {c : Nat} {s : State} (owner : s.ip.owner = none) :
    arriveAtColumn k c s = s := by
  simp [arriveAtColumn, owner]

/-! ### An older print owner (08 R161) -/

/-- The state whose table holds two records. -/
def holdingTwo (q r : Record) (s : State) : State := s.setTable { s.table with records := [q, r] }

section Two

variable {q r : Record} (keys : q.key ≠ r.key)
include keys

theorem record_second (s : State) : (holdingTwo q r s).record r.key = some r := by
  simp [holdingTwo, State.record, keys]

theorem updateRecord_first (s : State) (f : Record → Record) :
    (holdingTwo q r s).updateRecord q.key f = holdingTwo (f q) r s := by
  simp [State.updateRecord, holdingTwo, State.setTable, keys.symm]

theorem updateRecord_second (s : State) (f : Record → Record) :
    (holdingTwo q r s).updateRecord r.key f = holdingTwo q (f r) s := by
  simp [State.updateRecord, holdingTwo, State.setTable, keys]

theorem reachTarget_second {s : State} (running : s.running = true) (present : r.presence = .present)
    (since : r.beforeReset = false) :
    reachTarget r.key (holdingTwo q r s) =
      handArrival r.key r.awaits (holdingTwo q { r with awaits := r.awaits.after s.loader.config.width } s) := by
  have hupdate : (holdingTwo q r s).updateRecord r.key
      (fun r => { r with awaits := r.awaits.after s.loader.config.width }) =
      holdingTwo q { r with awaits := r.awaits.after s.loader.config.width } s := updateRecord_second keys s _
  have hrun : (holdingTwo q r s).running = true := running
  unfold reachTarget
  rw [record_second keys]
  simp only [present, hrun, since, Bool.not_false, Bool.and_self, ↓reduceIte]
  rw [show (holdingTwo q r s).loader = s.loader from rfl, hupdate]
  simp only [present, since]

theorem startPrinting_overruns {u : State} {o : PrintOwner} (owner : u.ip.owner = some o) (older : o.key = q.key)
    (armed : r.claim = .armed) :
    startPrinting r.key (holdingTwo q r u) =
      holdingTwo (overrun u.loader.config.width q) { r with claim := .printing, print := some { next := 0, dropped := 0 } }
        (printing (contentOf u r) r.key u) := by
  have hkeys : (overrun u.loader.config.width q).key ≠ r.key := by
    unfold overrun
    split <;> exact keys
  unfold startPrinting
  rw [record_second keys]
  simp only [armed, ne_eq, not_true_eq_false, ↓reduceIte, show (holdingTwo q r u).ip = u.ip from rfl, owner, older, keys]
  rw [show (holdingTwo q r u).loader = u.loader from rfl, updateRecord_first keys, updateRecord_second hkeys]
  rfl

theorem skipLateDebit_second {u : State} (ready : r.claim ≠ .debitWait) :
    skipLateDebit r.key (holdingTwo q r u) = holdingTwo q r u := by
  rw [skipLateDebit, updateRecord_second keys, if_neg ready]

theorem arriveAtColumn_second {u : State} {o : PrintOwner} {c : Nat} (owner : u.ip.owner = some o) (key : o.key = r.key)
    (isPrinting : r.claim = .printing) (before : c + 1 ≠ u.loader.config.width) :
    arriveAtColumn r.key c (holdingTwo q r u) = holdingTwo q (columnPrinted u.pins.phRdy c r) (columnTaken o c u) := by
  have hip : u.ip = { owner := some o, fired := u.ip.fired } := by rw [← owner]
  have hrecord := record_second keys u
  cases ready : u.pins.phRdy
  all_goals
    unfold arriveAtColumn
    rw [hrecord]
    simp [holdingTwo, State.updateRecord, State.setTable, State.setPins, State.setIp, columnTaken, columnPrinted, owner, key,
      isPrinting, ready, before, keys]
  exact hip

end Two

theorem sortByKey_two {p : Pos} {q r : Record} (h : orderKey p q.key < orderKey p r.key) : sortByKey p [q, r] = [q, r] := by
  rw [sortByKey, List.foldr_cons, List.foldr_cons, List.foldr_nil, insertByKey, insertByKey, if_pos h.le]

theorem dueEvents_second {q r : Record} {s : State} (clearance : s.lpu.clearance = none)
    (resting : targetDue s.loader.config s.lpu.linePos q = false) :
    dueEvents false (holdingTwo q r s) = if targetDue s.loader.config s.lpu.linePos r then [.target r.key] else [] := by
  have hlpu : (holdingTwo q r s).lpu = s.lpu := rfl
  have hloader : (holdingTwo q r s).loader = s.loader := rfl
  have hrecords : (holdingTwo q r s).table.records = [q, r] := rfl
  simp only [dueEvents, hlpu, clearance, hloader, hrecords]
  by_cases h : targetDue s.loader.config s.lpu.linePos r = true <;> simp [h, resting]

theorem targetDue_overrun {c : ConfigCopy} {linePos : Pos} {width : Nat} {q : Record} :
    targetDue c linePos (overrun width q) = targetDue c linePos q := by
  unfold overrun
  split <;> rfl

/-- Column 0 is due at once after S (01 Table 1-1). -/
theorem after_s {w : Nat} (h : 2 ≤ w) : Target.after w .s = .column 0 := by
  simp only [Target.after]
  rw [if_pos (by omega)]

theorem after_first {w : Nat} (h : 2 ≤ w) : Target.after w (.column 0) = .column 1 := by
  simp only [Target.after]
  rw [if_pos (by omega)]

/-- Column 1 lies after S, and before the exit window. -/
theorem column_ahead {c : ConfigCopy} (ordered : c.ordered = true) (bound : c.x ≤ 4095) (width : 2 ≤ c.width)
    (pitch : 1 ≤ c.pitch) : c.s < c.s + 1 * c.pitch ∧ c.s + 1 * c.pitch ≤ 8388607 := by
  obtain ⟨-, -, -, -, hx⟩ := ordered_landmarks ordered
  have hle : 1 * c.pitch ≤ (c.width - 1) * c.pitch := Nat.mul_le_mul_right _ (by omega)
  omega

/-- Settles O35: an ARMED and a late record at S, and an ARMED one that overruns an older owner. -/
theorem printStartsAtS : Obligations.PrintStartsAtS := by
  constructor
  · intro a b s r clear only ordered bound width pitch awaits owner
    obtain ⟨hahead, hbound⟩ := column_ahead ordered bound width pitch
    have belt := State.beltClear.runs clear a b
    have idle : s.portIdle := clear.2.2.2.2.2.2
    have since : r.beforeReset = false := only.2.2.1
    have present : r.presence = .present := only.2.1
    have hafter : r.awaits.after s.loader.config.width = .column 0 := by rw [awaits, after_s width]
    have hzero : s.loader.config.s = s.loader.config.s + 0 * s.loader.config.pitch := by omega
    refine ⟨fun p n d content armed rating number date hcontent => ?_, fun wait => ?_⟩
    · have hcontentOf : contentOf (s.stepped a b) { r with awaits := .column 0 } = content := by
        rw [hcontent]
        exact contentOf_eq rating number date
      have hfirst := arriveAtS_armed (q := { r with awaits := .column 0 }) (u := s.stepped a b) armed owner
      rw [hcontentOf] at hfirst
      have hsecond := arriveAtColumn_owner (c := 0) (o := { key := r.key, content := content })
        (q := { r with awaits := .column 1, claim := .printing, print := some { next := 0, dropped := 0 } })
        (u := printing content r.key (s.stepped a b)) rfl rfl rfl
      rw [if_neg (by change ¬ 0 + 1 = s.loader.config.width; omega)] at hsecond
      rw [forwardStep_twice
        (q := { r with awaits := .column 0, claim := .printing, print := some { next := 0, dropped := 0 } })
        (u := printing content r.key (s.stepped a b)) (n := s.loader.config.s + 1 * s.loader.config.pitch) belt only
        (by rw [awaits]; rfl) (by rw [hafter, awaits]; exact hfirst) rfl rfl present since rfl (by rw [hzero]; rfl)
        (by
          change handArrival r.key (.column 0) (holding { r with
            awaits := Target.after s.loader.config.width (.column 0), claim := .printing,
            print := some { next := 0, dropped := 0 } } _) = _
          rw [after_first width]
          exact hsecond)
        (by rfl) (by rfl) (by simp [columnPrinted, present]) (by rfl) (by rfl) hahead hbound (by exact idle)]
      cases a <;> rfl
    · have hfirst := arriveAtS_debitWait (q := { r with awaits := .column 0 }) (u := s.stepped a b) wait
      rw [forwardStep_twice (q := { r with awaits := .column 0, outcome := some .spoiled, pass := .lateDebit })
        (u := s.stepped a b) (x := { r with awaits := .column 1, outcome := some .spoiled, pass := .lateDebit })
        (v := s.stepped a b) (n := s.loader.config.s + 1 * s.loader.config.pitch) belt only (by rw [awaits]; rfl)
        (by rw [hafter, awaits]; exact hfirst) rfl rfl present since rfl (by rw [hzero]; rfl)
        (by
          change arriveAtColumn r.key 0 (holding { r with
            awaits := Target.after s.loader.config.width (.column 0), outcome := some .spoiled, pass := .lateDebit } _) = _
          rw [after_first width]
          exact arriveAtColumn_unowned (by exact owner))
        rfl rfl (by simp [present]) rfl rfl hahead hbound idle]
      rfl
  · intro a b s q r o g p n d content start clear records order present since sighted here resting ordered bound width pitch
      awaits owner older isPrinting progress armed rating number date hcontent
    obtain ⟨hahead, hbound⟩ := column_ahead ordered bound width pitch
    have idle : s.portIdle := clear.2.2.2.2.2.2
    have clearance : s.lpu.clearance = none := clear.2.2.2.2.1
    have hrun : s.running = true := running_of_mode clear.2.1
    have keys : q.key ≠ r.key := fun h => absurd order (by rw [h]; exact lt_irrefl _)
    let q' := overrun s.loader.config.width q
    have keys' : q'.key ≠ r.key := by
      change (overrun s.loader.config.width q).key ≠ r.key
      rw [overrun, if_pos isPrinting]
      exact keys
    have hq' : targetDue s.loader.config (s.lpu.linePos + 1#24) q' = false := targetDue_overrun.trans resting
    have hstepped : holdingTwo q r (s.stepped a b) = s.stepped a b := by
      rw [holdingTwo, ← show (s.stepped a b).table.records = [q, r] from records]
      rfl
    let r₁ : Record := { r with awaits := .column 0, claim := .printing, print := some { next := 0, dropped := 0 } }
    let r₂ : Record := { r with awaits := .column 1, claim := .printing, print := some { next := 0, dropped := 0 } }
    let u := printing content r.key (s.stepped a b)
    have hcontentOf : contentOf (s.stepped a b) { r with awaits := .column 0 } = content := by
      rw [hcontent]
      exact contentOf_eq rating number date
    have hfirst : reachTarget r.key (holdingTwo q r (s.stepped a b)) = holdingTwo q' r₁ u := by
      rw [reachTarget_second keys (s := s.stepped a b) hrun present since, awaits]
      change arriveAtS r.key (holdingTwo q { r with awaits := Target.after s.loader.config.width .s } (s.stepped a b)) = _
      rw [after_s width]
      have hstart := startPrinting_overruns (q := q) (r := { r with awaits := .column 0 }) (u := s.stepped a b) keys owner older
        armed
      rw [hcontentOf] at hstart
      exact (congrArg (skipLateDebit r.key) hstart).trans (skipLateDebit_second (q := q') (r := r₁) keys' (by simp [r₁]))
    have hsecond : reachTarget r.key (holdingTwo q' r₁ u) =
        holdingTwo q' (columnPrinted a 0 r₂) (columnTaken { key := r.key, content := content } 0 u) := by
      refine (reachTarget_second (r := r₁) keys' (s := u) hrun present since).trans ?_
      change arriveAtColumn r.key 0 (holdingTwo q' { r₁ with awaits := Target.after s.loader.config.width (.column 0) } u) = _
      rw [after_first width]
      exact arriveAtColumn_second (r := r₂) keys' (u := u) rfl rfl rfl (by change 0 + 1 ≠ s.loader.config.width; omega)
    have hdue {x : Record} {m : Nat} (hp : x.presence = .present) (hs : x.sightPos = some start)
        (hm : x.awaits.travel s.loader.config = some m) :
        targetDue s.loader.config (s.lpu.linePos + 1#24) x = atOrPast (start + pos s.loader.config.s) (start + pos m) := by
      rw [targetDue_awaited (by simp [hp]) (awaitedAt_of_travel hs hm), here]
      rfl
    have hdue₁ : dueEvents false (holdingTwo q r (s.stepped a b)) = [.target r.key] := by
      rw [dueEvents_second (s := s.stepped a b) (by exact clearance) (by exact resting), if_pos]
      exact (hdue present sighted (by rw [awaits]; rfl)).trans (atOrPast_self _)
    have hdue₂ : dueEvents false (holdingTwo q' r₁ u) = [.target r.key] := by
      rw [dueEvents_second (s := u) (by exact clearance) (by exact hq'), if_pos]
      exact (hdue (x := r₁) (m := s.loader.config.s) present sighted (by simp [r₁, Target.travel])).trans (atOrPast_self _)
    have hquiet : dueEvents false
        (holdingTwo q' (columnPrinted a 0 r₂) (columnTaken { key := r.key, content := content } 0 u)) = [] := by
      rw [dueEvents_second (s := columnTaken { key := r.key, content := content } 0 u) (by exact clearance)
        (by exact hq'), if_neg]
      rw [Bool.not_eq_true]
      exact (hdue (x := columnPrinted a 0 r₂) present sighted rfl).trans (atOrPast_travel start hahead hbound)
    rw [forwardStep_eq clear.1 clear.2.2.2.2.2.1 (by rw [records]; exact sortByKey_two order), (State.beltClear.runs clear a b).calm,
      stepFuel_eq, ← hstepped, stepEvents_one hdue₁]
    change Host.Outcome.next (portNext (stepEvents _ false (reachTarget r.key _))) = _
    rw [hfirst, stepEvents_one hdue₂]
    change Host.Outcome.next (portNext (stepEvents _ false (reachTarget r.key _))) = _
    rw [hsecond, stepEvents_none hquiet, portNext_idle (by exact idle)]
    have hover : q' = { q with
        claim := .ended, outcome := some .defective
        print := some { next := s.loader.config.width, dropped := g.dropped + (s.loader.config.width - g.next) } } := by
      change overrun s.loader.config.width q = _
      rw [overrun, if_pos isPrinting]
      simp [progressOf, progress]
    rw [hover]
    cases a <;> rfl

end Sys2Proof.Laws
end

section
/-! PROOFS. What a heard frame of the terminal does at its block, and JOB (05 R80, R81). -/

namespace Sys2Proof.Laws
open Sys2Proof.Machine

/-! ### Heard frames of the terminal -/

/-- A heard frame of the terminal that is not a LINE RESET runs its block's act. -/
theorem command_handed {kind : Kind} {dst : Node} {p : List Byte} {act : State → State} {s : State} (h : s.hears dst)
    (short : p.length ≤ 12) (length : kind.payloadLength ≤ p.length) (reset : kind ≠ .lineReset)
    (report : kind.report = false) :
    receive kind 0#4 dst (goodBody kind 0#4 dst p) act s = .next (act s.accepting) :=
  receive_handed h short length (by decide) (fun _ => rfl) (fun k => absurd k reset) report

/-- A REFUSAL of a heard frame. -/
theorem refuse_accepting (kind : Kind) (reason : RefusalReason) (detail : Nat) (s : State) :
    refuse kind reason detail s.accepting =
      s.refusing (beBytes 1 kind.code ++ beBytes 1 reason.code ++ beBytes 3 detail) := by
  have hroom : s.accepting.hasRoom 1 = true ↔ s.lc.queue.length < 8 := hasRoom_iff s.accepting 1
  have hq : s.accepting.lc.queue = s.lc.queue := rfl
  rw [refuse_frame]
  unfold State.refusing refusalEntry
  rw [hq, if_congr hroom rfl rfl]
  rfl

/-! ### Jobs -/

/-- An empty list takes a job and its key as the reference key (05 R80, R81). -/
theorem acceptJob_empty {j : Job} {r : Rater} (none : r.jobs = []) :
    acceptJob j r = { r with jobs := [j], ref := j.key } := by
  unfold acceptJob
  simp [none, insertJob]

/-- A job of a held effective key replaces the one held, in its place and in force if that was (05 R81). -/
theorem acceptJob_replaces {j : Job} {r : Rater} (held : r.jobs.any (fun x => x.key == j.key) = true) :
    acceptJob j r =
      { r with jobs := r.jobs.map (fun x => if x.key == j.key then { j with inForce := x.inForce } else x) } := by
  unfold acceptJob
  rw [if_pos held]

/-- A job of a new effective key is put at its place, counted from the reference key (05 R81). -/
theorem acceptJob_inserts {j : Job} {r : Rater} (some : r.jobs ≠ [])
    (apart : r.jobs.any (fun x => x.key == j.key) = false) :
    acceptJob j r = { r with jobs := insertJob (referenceKey r) j r.jobs, ref := referenceKey r } := by
  unfold acceptJob
  rw [if_neg (by simp [apart]), if_neg (by simpa using some)]

theorem insertJob_first {ref : Pos} {j x : Job} {xs : List Job} (h : orderKey ref j.key < orderKey ref x.key) :
    insertJob ref j (x :: xs) = j :: x :: xs := by
  rw [insertJob, if_pos h.le]

theorem insertJob_after {ref : Pos} {j x : Job} {xs : List Job} (h : orderKey ref x.key < orderKey ref j.key) :
    insertJob ref j (x :: xs) = x :: insertJob ref j xs := by
  rw [insertJob, if_neg h.not_ge]

/-- Keys that differ have different places in any order. -/
theorem orderKey_lt_of_not_lt {ref a b : Pos} (differ : a ≠ b) (h : ¬ orderKey ref a < orderKey ref b) :
    orderKey ref b < orderKey ref a :=
  lt_of_le_of_ne (not_lt.mp h) fun he => differ (orderKey_inj he).symm

/-- Counted from a key, exactly the keys that it precedes come after it. -/
theorem orderKey_after_iff (a b : Pos) : orderKey a a < orderKey a b ↔ precedes a b = true := by
  unfold orderKey precedes
  rw [Bool.and_eq_true, decide_eq_true_iff, decide_eq_true_iff]
  generalize b - a = d
  bv_omega

/-- A payload whose number, class, zone or service lies outside its range is refused (05 R81, 09 Table 9-5). -/
theorem takeJob_range {p : List Byte} {s : State}
    (bad : fieldAt 0 1 p = 0 ∨ 7 < fieldAt 1 1 p ∨ 15 < fieldAt 2 1 p ∨ 3 < fieldAt 3 1 p) :
    takeJob p s = refuse .job .range 0 s := by
  unfold takeJob
  cases h : serviceOf (fieldAt 3 1 p) with
  | none => rfl
  | some service =>
    have hservice : fieldAt 3 1 p ≤ 3 := by
      by_contra hlarge
      obtain ⟨n, hn⟩ := Nat.exists_eq_add_of_le (show 4 ≤ fieldAt 3 1 p by omega)
      rw [hn, Nat.add_comm] at h
      simp [serviceOf] at h
    exact if_pos (by omega)

/-- A job whose fields lie in their ranges meets the places of the list. -/
theorem takeJob_inRange {p : List Byte} {s : State} {service : Service} (number : fieldAt 0 1 p ≠ 0)
    (cls : fieldAt 1 1 p ≤ 7) (zone : fieldAt 2 1 p ≤ 15) (hservice : serviceOf (fieldAt 3 1 p) = some service) :
    takeJob p s =
      if 3 ≤ s.rater.jobs.length then refuse .job .full 0 s
      else
        (s.setRater
          (acceptJob
            { number := fieldAt 0 1 p, cls := fieldAt 1 1 p, zone := fieldAt 2 1 p, service := service,
              key := pos (fieldAt 4 3 p), inForce := false }
            s.rater)).setInhibit
          { s.inhibit with noJob := s.inhibit.noJob && !s.rater.jobs.isEmpty } := by
  unfold takeJob
  rw [hservice]
  exact if_neg (by omega)

/-- A service code of 0 to 3 names a service. -/
theorem serviceOf_some {n : Nat} (h : n ≤ 3) : ∃ service, serviceOf n = some service := by
  interval_cases n <;> exact ⟨_, rfl⟩

/-- A heard JOB of its full length is taken. -/
theorem exec_job {s : State} {dst : Node} {p : List Byte} (h : s.hears dst) (long : 7 ≤ p.length)
    (short : p.length ≤ 12) : exec (.job 0#4 dst (goodBody .job 0#4 dst p)) s = .next (takeJob p s.accepting) :=
  command_handed (kind := .job) (act := takeJob p) h short long (by decide) rfl

/-- A job that the list takes, by the list as it comes to stand. -/
theorem job_accepted {s : State} {dst : Node} {p : List Byte} {j : Job} {r : Rater} {b : Bool} (h : s.hears dst)
    (long : 7 ≤ p.length) (short : p.length ≤ 12) (number : j.number = fieldAt 0 1 p) (cls : j.cls = fieldAt 1 1 p)
    (zone : j.zone = fieldAt 2 1 p) (key : j.key = BitVec.ofNat 24 (fieldAt 4 3 p)) (pending : j.inForce = false)
    (inNumber : j.number ≠ 0) (inCls : j.cls ≤ 7) (inZone : j.zone ≤ 15)
    (service : serviceOf (fieldAt 3 1 p) = some j.service) (room : s.rater.jobs.length < 3)
    (list : acceptJob j s.rater = r) (empty : (s.inhibit.noJob && !s.rater.jobs.isEmpty) = b) :
    exec (.job 0#4 dst (goodBody .job 0#4 dst p)) s = .next
      { s.accepting with rater := r, inhibit := { s.inhibit with noJob := b } } := by
  have hj : j = { number := fieldAt 0 1 p, cls := fieldAt 1 1 p, zone := fieldAt 2 1 p, service := j.service,
                  key := pos (fieldAt 4 3 p), inForce := false } := by
    obtain ⟨n, c, z, v, k, f⟩ := j
    simp only at number cls zone key pending
    rw [number, cls, zone, key, pending]
    rfl
  rw [exec_job h long short,
    takeJob_inRange (s := s.accepting) (by rwa [← number]) (by rwa [← cls]) (by rwa [← zone]) service,
    if_neg (by exact room.not_ge), ← hj, ← list, ← empty]
  rfl

/-- A job that joins jobs of other keys. -/
theorem job_inserted {s : State} {dst : Node} {p : List Byte} {j : Job} {ref : Pos} {list : List Job} (h : s.hears dst)
    (long : 7 ≤ p.length) (short : p.length ≤ 12) (number : j.number = fieldAt 0 1 p) (cls : j.cls = fieldAt 1 1 p)
    (zone : j.zone = fieldAt 2 1 p) (key : j.key = BitVec.ofNat 24 (fieldAt 4 3 p)) (pending : j.inForce = false)
    (inNumber : j.number ≠ 0) (inCls : j.cls ≤ 7) (inZone : j.zone ≤ 15)
    (service : serviceOf (fieldAt 3 1 p) = some j.service) (room : s.rater.jobs.length < 3)
    (held : s.rater.jobs ≠ []) (apart : s.rater.jobs.any (fun x => x.key == j.key) = false)
    (reference : referenceKey s.rater = ref) (place : insertJob ref j s.rater.jobs = list) :
    exec (.job 0#4 dst (goodBody .job 0#4 dst p)) s = .next
      { s.accepting with rater := { s.rater with jobs := list, ref := ref } } := by
  rw [job_accepted h long short number cls zone key pending inNumber inCls inZone service room
    (acceptJob_inserts held apart) (b := s.inhibit.noJob) (by simp [held]), reference, place]
  rfl

/-- A job that replaces the one of its key. -/
theorem job_replaces {s : State} {dst : Node} {p : List Byte} {j : Job} {list : List Job} (h : s.hears dst)
    (long : 7 ≤ p.length) (short : p.length ≤ 12) (number : j.number = fieldAt 0 1 p) (cls : j.cls = fieldAt 1 1 p)
    (zone : j.zone = fieldAt 2 1 p) (key : j.key = BitVec.ofNat 24 (fieldAt 4 3 p)) (pending : j.inForce = false)
    (inNumber : j.number ≠ 0) (inCls : j.cls ≤ 7) (inZone : j.zone ≤ 15)
    (service : serviceOf (fieldAt 3 1 p) = some j.service) (room : s.rater.jobs.length < 3)
    (held : s.rater.jobs.any (fun x => x.key == j.key) = true)
    (place : s.rater.jobs.map (fun x => if x.key == j.key then { j with inForce := x.inForce } else x) = list) :
    exec (.job 0#4 dst (goodBody .job 0#4 dst p)) s = .next
      { s.accepting with rater := { s.rater with jobs := list } } := by
  have some : s.rater.jobs ≠ [] := fun h => by simp [h] at held
  rw [job_accepted h long short number cls zone key pending inNumber inCls inZone service room
    (acceptJob_replaces held) (b := s.inhibit.noJob) (by simp [some]), place]
  rfl

/-- Settles O43, from the list that `acceptJob` leaves: replaced in place, or inserted from the reference key. -/
theorem jobsAreAccepted : Obligations.JobsAreAccepted := by
  unfold Obligations.JobsAreAccepted
  intro s dst p j h long short number cls zone key pending
  refine ⟨?_, fun inNumber inCls inZone hservice => ?_⟩
  · rintro reason (⟨rfl, bad⟩ | ⟨rfl, inNumber, inCls, inZone, inService, full⟩)
    · rw [exec_job h long short, takeJob_range (by rwa [← number, ← cls, ← zone]), refuse_accepting]
      rfl
    · obtain ⟨service, hservice⟩ := serviceOf_some inService
      rw [exec_job h long short,
        takeJob_inRange (by rwa [← number]) (by rwa [← cls]) (by rwa [← zone]) hservice, if_pos (by exact full),
        refuse_accepting]
      rfl
  have service : serviceOf (fieldAt 3 1 p) = some j.service := by
    obtain ⟨h1, h2⟩ | ⟨h1, h2⟩ | ⟨h1, h2⟩ | ⟨h1, h2⟩ := hservice <;> rw [h1, h2] <;> rfl
  have hinserted := fun room held differ ref list reference place =>
    job_inserted (list := list) (ref := ref) h long short number cls zone key pending inNumber inCls inZone service room
      held differ reference place
  have hreplaced := fun room held list place =>
    job_replaces (list := list) h long short number cls zone key pending inNumber inCls inZone service room held place
  refine ⟨fun none => ?_, fun x one same => ?_, fun x one differ inForce => ?_, fun x one differ inForce => ?_,
    fun x y two => ⟨fun same differ => ?_, fun differ same => ?_, fun ref list differX differY hreference hplace => ?_⟩⟩
  · exact job_accepted h long short number cls zone key pending inNumber inCls inZone service (by simp [none])
      (acceptJob_empty none) (by simp [none])
  · exact hreplaced (by simp [one]) (by simp [one, same]) _ (by simp [one, same])
  · refine hinserted (by simp [one]) (by simp [one]) (by simp [one, differ]) _ _
      (by simp [referenceKey, one, inForce]) ?_
    rw [one]
    split
    case isTrue after => exact insertJob_after ((orderKey_after_iff _ _).mpr after)
    case isFalse before =>
      exact insertJob_first (orderKey_lt_of_not_lt differ fun h => before ((orderKey_after_iff _ _).mp h))
  · have href : referenceKey s.rater = s.rater.ref := by simp [referenceKey, one, inForce]
    refine hinserted (by simp [one]) (by simp [one]) (by simp [one, differ]) _ _ href ?_
    rw [one]
    split
    case isTrue before => exact insertJob_first before
    case isFalse after => exact insertJob_after (orderKey_lt_of_not_lt (Ne.symm differ) after)
  · exact hreplaced (by simp [two]) (by simp [two, same]) _ (by simp [two, same, differ])
  · exact hreplaced (by simp [two]) (by simp [two, same]) _ (by simp [two, same, differ])
  · refine hinserted (by simp [two]) (by simp [two]) (by simp [two, differX, differY]) _ _ ?_ ?_
    · obtain ⟨hx, rfl⟩ | ⟨hx, hy, rfl⟩ | ⟨hx, hy, rfl⟩ := hreference <;> simp [referenceKey, *]
    · rw [two]
      obtain ⟨h1, rfl⟩ | ⟨h1, h2, rfl⟩ | ⟨h1, h2, rfl⟩ := hplace
      · exact insertJob_first h1
      · rw [insertJob_after h1, insertJob_first h2]
      · rw [insertJob_after h1, insertJob_after h2, insertJob]

end Sys2Proof.Laws
end

section
/-! PROOFS. The tariff memory port takes a status write; DATE and changeover (04 R62, R75 to R77). -/

namespace Sys2Proof.Laws
open Sys2Proof.Machine

/-! ### Slots and requests -/

/-- Two slots are put in either order. -/
theorem setSlot_comm (t : Tariff) (id : SlotId) (v w : Slot) :
    (t.setSlot id v).setSlot id.other w = (t.setSlot id.other w).setSlot id v := by cases id <;> rfl

/-- A slot is put beside the date, the write buffer, the load, the requests and the port. -/
theorem setSlot_beside (t : Tariff) (id : SlotId) (v : Slot) (d : Option StationDate) (buffer : List BufferEntry)
    (load : Option Load) (writes : List StatusReq) (port : Option PortOp) :
    ({ t with date := d, buffer := buffer, load := load, writes := writes, port := port }).setSlot id v =
      { t.setSlot id v with date := d, buffer := buffer, load := load, writes := writes, port := port } := by
  cases id <;> rfl

/-- With no request pending for a slot, its request joins the queue. -/
theorem requestStatus_fresh {id : SlotId} {t : Tariff} (fresh : ∀ q ∈ t.writes, q.slot ≠ id) :
    requestStatus id t = { t with writes := t.writes ++ [{ slot := id, readyFirst := false }] } := by
  unfold requestStatus
  rw [if_neg]
  simpa [List.any_eq_true] using fresh

/-- The same when the slot has become ACTIVE. -/
theorem requestActiveStatus_fresh {id : SlotId} {t : Tariff} (fresh : ∀ q ∈ t.writes, q.slot ≠ id) :
    requestActiveStatus id t = { t with writes := t.writes ++ [{ slot := id, readyFirst := false }] } := by
  unfold requestActiveStatus
  rw [if_neg]
  simpa [List.any_eq_true] using fresh

/-! ### The free port -/

/-- What a status write records of a slot's descriptor. -/
def recordOf (slot : Slot) : SlotRecord :=
  { state := slot.state, image := slot.image, ordinal := slot.ordinal, length := slot.length, invalid := slot.invalid }

/-- A status write that does not first record READY records the descriptor as it stands. -/
theorem statusRecordOf_eq (t : Tariff) (id : SlotId) :
    statusRecordOf t { slot := id, readyFirst := false } = recordOf (t.slot id) := rfl

/-- With no walk read waiting, the free port takes the status write at the front, if it may start. -/
theorem portTakes_write {t : Tariff} {id : SlotId} {rest : List StatusReq} (port : t.port = none)
    (writes : t.writes = { slot := id, readyFirst := false } :: rest) (others : ∀ q ∈ rest, q.slot ≠ id)
    (may : (t.slot id).state ≠ .active ∨ rest = []) :
    portTakes false t =
      { t with port := some (.statusWrite id (recordOf (t.slot id)) false), writes := rest } := by
  have hmay : mayStart t { slot := id, readyFirst := false } = true := by
    unfold mayStart
    rw [statusRecordOf_eq]
    obtain h | h := may
    · simp [recordOf, h]
    · simp [writes, h, (other_ne id).symm]
  have hrest : t.writes.filter (fun o => !(o.slot == id)) = rest := by
    rw [writes, List.filter_cons_of_neg (by simp)]
    exact List.filter_eq_self.mpr (by simpa using others)
  unfold portTakes
  rw [port, writes, List.find?_cons_of_pos hmay]
  simp only [Option.isSome_none, Bool.false_eq_true, if_false]
  rw [← writes, hrest, statusRecordOf_eq]
  rfl

/-- The free port of a started part, with no walk in flight, takes what the tariff memory gives it. -/
theorem portNext_takes {s : State} {t : Tariff} (started : s.started = true) (walk : s.rater.walk = none)
    (takes : portTakes false s.tariff = t) : portNext s = s.setTariff t := by
  unfold portNext
  rw [if_pos started, walk, ← takes]
  rfl

theorem started_of_hears {s : State} {dst : Node} (h : s.hears dst) : s.started = true := by
  obtain ⟨hmode, -⟩ := hears_mode h
  obtain ⟨powered, -⟩ := h
  simp [State.started, powered, Option.isSome_iff_ne_none, hmode]

/-! ### Changeover -/

theorem candidate_iff (slot : Slot) (n : Nat) : slot.candidate n = true ↔ slot.state = .ready ∧ slot.ordinal ≤ n := by
  simp [Slot.candidate]

/-- With no candidate no slot is chosen. -/
theorem chosen_none {t : Tariff} {n : Nat} (none : ∀ id, (t.slot id).candidate n = false) : t.chosen n = .none := by
  have ha : t.slotA.candidate n = false := none .a
  have hb : t.slotB.candidate n = false := none .b
  simp [Tariff.chosen, ha, hb]

/-- The candidate of the later date is chosen; of equal dates, slot A (04 R76). -/
theorem chosen_some {t : Tariff} {n : Nat} {id : SlotId} (candidate : (t.slot id).candidate n = true)
    (first : (t.slot id.other).candidate n = true → (t.slot id.other).ordinal < (t.slot id).ordinal ∨
      ((t.slot id.other).ordinal = (t.slot id).ordinal ∧ id = .a)) : t.chosen n = some id := by
  unfold Tariff.chosen
  cases id with
  | a =>
    have ha : t.slotA.candidate n = true := candidate
    rw [if_pos ha]
    refine if_neg fun h => ?_
    rw [Bool.and_eq_true, decide_eq_true_iff] at h
    obtain ⟨hb, hlt⟩ := h
    have hfirst : t.slotB.ordinal < t.slotA.ordinal ∨ (t.slotB.ordinal = t.slotA.ordinal ∧ SlotId.a = .a) := first hb
    omega
  | b =>
    have hb : t.slotB.candidate n = true := candidate
    split
    case isTrue ha =>
      have hfirst : t.slotA.ordinal < t.slotB.ordinal ∨ (t.slotA.ordinal = t.slotB.ordinal ∧ SlotId.b = .a) := first ha
      have hlt : t.slotA.ordinal < t.slotB.ordinal := by
        obtain h | ⟨-, h⟩ := hfirst
        · exact h
        · cases h
      simp [hb, hlt]
    case isFalse => rfl

/-- A changeover that leaves the other slot as it was. -/
theorem changeTo_alone {t : Tariff} {id : SlotId} {n : Nat} (writes : t.writes = [])
    (active : (t.slot id.other).state ≠ .active) (candidate : (t.slot id.other).candidate n = false) :
    t.changeTo id n =
      { t.setSlot id { t.slot id with state := .active } with writes := [{ slot := id, readyFirst := false }] } := by
  unfold Tariff.changeTo
  dsimp only
  rw [if_neg (by simp [active, candidate]), requestActiveStatus_fresh (by simp [Tariff.enter, writes])]
  simp only [Tariff.enter, setSlot_writes, writes, List.nil_append]

/-- A changeover that supersedes the other slot, whose status write is requested first (assumption log 20). -/
theorem changeTo_supersedes {t : Tariff} {id : SlotId} {n : Nat} (writes : t.writes = [])
    (leaves : (t.slot id.other).state = .active ∨ (t.slot id.other).candidate n = true) :
    t.changeTo id n =
      { (t.setSlot id { t.slot id with state := .active }).setSlot id.other
          { t.slot id.other with state := .superseded } with
        writes := [{ slot := id.other, readyFirst := false }, { slot := id, readyFirst := false }] } := by
  unfold Tariff.changeTo
  dsimp only
  rw [if_pos (by simpa using leaves), requestStatus_fresh (by simp [Tariff.enter, writes]),
    requestActiveStatus_fresh (by simp [Tariff.enter, writes, other_ne])]
  cases id <;> simp [Tariff.enter, Tariff.setSlot, Tariff.slot, SlotId.other, writes]

/-- An evaluation that chooses no slot (04 R76). -/
theorem evaluateChangeover_none {s : State} {d : StationDate} (date : s.tariff.date = some d)
    (chosen : s.tariff.chosen d.ordinal = none) : evaluateChangeover s = s := by
  unfold evaluateChangeover
  simp only [date, chosen]

/-- An evaluation that chooses a slot (04 R77). -/
theorem evaluateChangeover_some {s : State} {d : StationDate} {id : SlotId} (date : s.tariff.date = some d)
    (chosen : s.tariff.chosen d.ordinal = some id) :
    evaluateChangeover s =
      ((s.setTariff (s.tariff.changeTo id d.ordinal)).setInhibit { s.inhibit with noTariff := false }).setRater
        (flushCache s.rater) := by
  unfold evaluateChangeover
  simp only [date, chosen]

/-! ### DATE -/

/-- A heard DATE of its full length is taken. -/
theorem exec_date {s : State} {dst : Node} {p : List Byte} (h : s.hears dst) (long : 5 ≤ p.length)
    (short : p.length ≤ 12) : exec (.date 0#4 dst (goodBody .date 0#4 dst p)) s = .next (takeDate p s.accepting) :=
  command_handed (kind := .date) (act := takeDate p) h short long (by decide) rfl

/-- The date of a DATE payload. -/
def dateOf (p : List Byte) : StationDate :=
  { ordinal := fieldAt 0 2 p, day := fieldAt 2 1 p, month := fieldAt 3 1 p, year := fieldAt 4 1 p }

/-- A day, month or year outside its range. -/
def outsideDate (d : StationDate) : Prop :=
  d.day = 0 ∨ 31 < d.day ∨ d.month = 0 ∨ 12 < d.month ∨ 99 < d.year

/-- The state that holds the date, before changeover is evaluated. -/
def dated (d : StationDate) (s : State) : State :=
  (s.setTariff { s.tariff with date := some d }).setInhibit { s.inhibit with noDate := false }

/-- The range test of DATE finds the dates outside (04 R75). -/
theorem outside_iff (d : StationDate) :
    (!(inRange 1 31 d.day && inRange 1 12 d.month && decide (d.year ≤ 99))) = true ↔ outsideDate d := by
  simp only [inRange, outsideDate, Bool.not_eq_true', Bool.and_eq_false_iff, decide_eq_false_iff_not]
  omega

theorem not_outside {d : StationDate} (day : 1 ≤ d.day) (day31 : d.day ≤ 31) (month : 1 ≤ d.month)
    (month12 : d.month ≤ 12) (year : d.year ≤ 99) : ¬ outsideDate d := by
  unfold outsideDate
  omega

theorem takeDate_range {p : List Byte} {s : State} (bad : outsideDate (dateOf p)) :
    takeDate p s = refuse .date .range 0 s := by
  unfold takeDate
  exact if_pos ((outside_iff _).mpr bad)

theorem takeDate_inRange {p : List Byte} {s : State} (good : ¬ outsideDate (dateOf p)) :
    takeDate p s = portNext (evaluateChangeover (dated (dateOf p) s)) := by
  unfold takeDate
  exact if_neg fun h => good ((outside_iff _).mp h)

/-- A date that brings a changeover: the slot chosen, the tariff memory after it, and what the port then takes. -/
theorem date_changes {s : State} {dst : Node} {p : List Byte} {id : SlotId} {t u : Tariff} (h : s.hears dst)
    (long : 5 ≤ p.length) (short : p.length ≤ 12) (good : ¬ outsideDate (dateOf p)) (idle : s.portIdle)
    (chosen : s.tariff.chosen (dateOf p).ordinal = some id)
    (changed : ({ s.tariff with date := some (dateOf p) }).changeTo id (dateOf p).ordinal = t)
    (takes : portTakes false t = u) :
    exec (.date 0#4 dst (goodBody .date 0#4 dst p)) s = .next
      { s.accepting with
        tariff := u
        inhibit := { s.inhibit with noDate := false, noTariff := false }
        rater := { s.rater with cache := [[], [], [], [], [], [], [], []], limits := none } } := by
  obtain ⟨-, walk, -, -⟩ := idle
  rw [exec_date h long short, takeDate_inRange good,
    evaluateChangeover_some (s := dated (dateOf p) s.accepting) (d := dateOf p) (id := id) rfl (by exact chosen),
    portNext_takes (by exact started_of_hears h) (by exact walk)
      (takes := (congrArg (portTakes false) changed).trans takes)]
  rfl

/-- A changeover that leaves the other slot as it was, and starts the status write of the slot chosen. -/
theorem date_changes_alone {s : State} {dst : Node} {p : List Byte} {id : SlotId} (h : s.hears dst)
    (long : 5 ≤ p.length) (short : p.length ≤ 12) (good : ¬ outsideDate (dateOf p)) (idle : s.portIdle)
    (ready : (s.tariff.slot id).state = .ready) (due : (s.tariff.slot id).ordinal ≤ (dateOf p).ordinal)
    (active : (s.tariff.slot id.other).state ≠ .active)
    (candidate : (s.tariff.slot id.other).candidate (dateOf p).ordinal = false) :
    exec (.date 0#4 dst (goodBody .date 0#4 dst p)) s = .next
      { s.accepting with
        tariff :=
          { s.tariff.setSlot id { s.tariff.slot id with state := .active } with
            date := some (dateOf p)
            port := some (.statusWrite id (recordOf { s.tariff.slot id with state := .active }) false) }
        inhibit := { s.inhibit with noDate := false, noTariff := false }
        rater := { s.rater with cache := [[], [], [], [], [], [], [], []], limits := none } } := by
  have hidle : s.portIdle := idle
  obtain ⟨port, -, writes, -⟩ := hidle
  refine date_changes h long short good idle
    (chosen_some ((candidate_iff _ _).mpr ⟨ready, due⟩) fun h => by simp [candidate] at h)
    (changeTo_alone (by exact writes) (by exact active) (by exact candidate)) ?_
  rw [portTakes_write (id := id) (rest := []) (by cases id <;> exact port) rfl (by simp) (.inr rfl)]
  cases id <;> simp [Tariff.setSlot, Tariff.slot, writes]

/-- A changeover that supersedes the other slot, whose status write starts first. -/
theorem date_supersedes {s : State} {dst : Node} {p : List Byte} {id : SlotId} (h : s.hears dst)
    (long : 5 ≤ p.length) (short : p.length ≤ 12) (good : ¬ outsideDate (dateOf p)) (idle : s.portIdle)
    (ready : (s.tariff.slot id).state = .ready) (due : (s.tariff.slot id).ordinal ≤ (dateOf p).ordinal)
    (leaves : (s.tariff.slot id.other).state = .active ∨ (s.tariff.slot id.other).candidate (dateOf p).ordinal = true)
    (first : (s.tariff.slot id.other).candidate (dateOf p).ordinal = true →
      (s.tariff.slot id.other).ordinal < (s.tariff.slot id).ordinal ∨
        ((s.tariff.slot id.other).ordinal = (s.tariff.slot id).ordinal ∧ id = .a)) :
    exec (.date 0#4 dst (goodBody .date 0#4 dst p)) s = .next
      { s.accepting with
        tariff :=
          { (s.tariff.setSlot id { s.tariff.slot id with state := .active }).setSlot id.other
              { s.tariff.slot id.other with state := .superseded } with
            date := some (dateOf p)
            port := some (.statusWrite id.other (recordOf { s.tariff.slot id.other with state := .superseded }) false)
            writes := [{ slot := id, readyFirst := false }] }
        inhibit := { s.inhibit with noDate := false, noTariff := false }
        rater := { s.rater with cache := [[], [], [], [], [], [], [], []], limits := none } } := by
  have hidle : s.portIdle := idle
  obtain ⟨port, -, writes, -⟩ := hidle
  refine date_changes h long short good idle (chosen_some ((candidate_iff _ _).mpr ⟨ready, due⟩) first)
    (changeTo_supersedes (by exact writes) (by exact leaves)) ?_
  rw [portTakes_write (id := id.other) (rest := [{ slot := id, readyFirst := false }]) (by cases id <;> exact port) rfl
    (by simp [(other_ne id).symm]) (.inl (by cases id <;> simp [Tariff.setSlot, Tariff.slot, SlotId.other]))]
  cases id <;> rfl

/-- Settles O46, by the slot that changeover chooses and by what becomes of the other one. -/
theorem dateEvaluatesChangeover : Obligations.DateEvaluatesChangeover := by
  unfold Obligations.DateEvaluatesChangeover
  rintro s dst p d h long short rfl
  refine ⟨fun bad => ?_, fun day day31 month month12 year idle => ⟨fun none => ?_, fun id ready due notReady notActive => ?_⟩,
    fun day day31 month month12 year idle id o ready due ho => ⟨fun oReady later => ?_, fun leaves => ?_⟩⟩
  · rw [exec_date h long short, takeDate_range bad, refuse_accepting]
    rfl
  · have good : ¬ outsideDate (dateOf p) := not_outside day day31 month month12 year
    have hchosen : s.tariff.chosen (dateOf p).ordinal = .none := chosen_none fun id => by
      rw [Bool.eq_false_iff]
      intro h
      obtain ⟨ready, due⟩ := (candidate_iff _ _).mp h
      obtain hstate | hlater := none id
      · exact hstate ready
      · exact absurd due (not_le.mpr hlater)
    rw [exec_date h long short, takeDate_inRange good,
      evaluateChangeover_none (s := dated (dateOf p) s.accepting) (d := dateOf p) rfl (by exact hchosen),
      portNext_idle (by exact idle)]
    rfl
  all_goals have good : ¬ outsideDate (dateOf p) := not_outside day day31 month month12 year
  · exact date_changes_alone h long short good idle ready due notActive (by simp [Slot.candidate, notReady])
  · subst ho
    exact date_changes_alone h long short good idle ready due (by simp [oReady])
      (by rw [Bool.eq_false_iff, ne_eq, candidate_iff]; exact fun h => absurd h.2 (not_le.mpr later))
  · subst ho
    refine date_supersedes h long short good idle ready due ?_ fun candidate => ?_
    · obtain active | ⟨hready, hdue, -⟩ := leaves
      · exact .inl active
      · exact .inr ((candidate_iff _ _).mpr ⟨hready, hdue⟩)
    · obtain active | ⟨-, -, hfirst⟩ := leaves
      · simp [Slot.candidate, active] at candidate
      · exact hfirst

end Sys2Proof.Laws
end

section
/-! PROOFS. TARIFF OPEN, TARIFF DATA and TARIFF CLOSE (04 R66 to R70, R74). -/

namespace Sys2Proof.Laws
open Sys2Proof.Machine

@[simp] theorem accepting_tariff (s : State) : s.accepting.tariff = s.tariff := rfl

/-! ### The tests of the tariff frames -/

/-- The code of a slot in a payload (11 Table 11-2). -/
def slotCode : SlotId → Nat
  | .a => 0
  | .b => 1

theorem slotIdOf_slotCode (id : SlotId) : slotIdOf (slotCode id) = some id := by cases id <;> rfl

theorem slotCode_of {code : SlotId → Nat} (a : code .a = 0) (b : code .b = 1) (id : SlotId) : code id = slotCode id := by
  cases id <;> assumption

theorem slotIdOf_large {n : Nat} (h : 1 < n) : slotIdOf n = none := by
  match n, h with
  | n + 2, _ => rfl

theorem holdsImage_iff (slot : Slot) (image : Nat) :
    slot.holdsImage image = true ↔
      (slot.state = .ready ∨ slot.state = .active ∨ slot.state = .superseded) ∧ slot.image = image := by
  simp [Slot.holdsImage, or_assoc]

theorem checking_iff (t : Tariff) (id : SlotId) :
    t.checking id = true ↔ ∃ l, t.load = some l ∧ l.slot = id ∧ l.check ≠ none := by
  unfold Tariff.checking
  cases t.load <;> simp [Option.isSome_iff_ne_none]

theorem not_checking {t : Tariff} {id : SlotId} (h : ∀ l, t.load = some l → l.slot = id → l.check = none) :
    ¬ t.checking id = true := by
  rw [checking_iff]
  rintro ⟨l, load, slot, check⟩
  exact check (h l load slot)

theorem erased_iff (t : Tariff) (id : SlotId) :
    t.erased id = true ↔ ∃ l, t.load = some l ∧ l.slot = id ∧ l.erase = .done := by
  unfold Tariff.erased
  cases t.load <;> simp

/-! ### The frames reach the Tariff Store -/

theorem exec_tariffOpen {s : State} {dst : Node} {p : List Byte} (h : s.hears dst) (long : 7 ≤ p.length)
    (short : p.length ≤ 12) :
    exec (.tariffOpen 0#4 dst (goodBody .tariffOpen 0#4 dst p)) s = .next (takeTariffOpen p s.accepting) :=
  command_handed (kind := .tariffOpen) (act := takeTariffOpen p) h short long (by decide) rfl

theorem exec_tariffData {s : State} {dst : Node} {p : List Byte} (h : s.hears dst) (long : 3 ≤ p.length)
    (short : p.length ≤ 12) :
    exec (.tariffData 0#4 dst (goodBody .tariffData 0#4 dst p)) s = .next (takeTariffData p s.accepting) :=
  command_handed (kind := .tariffData) (act := takeTariffData p) h short long (by decide) rfl

theorem exec_tariffClose {s : State} {dst : Node} {p : List Byte} (h : s.hears dst) (long : 5 ≤ p.length)
    (short : p.length ≤ 12) :
    exec (.tariffClose 0#4 dst (goodBody .tariffClose 0#4 dst p)) s = .next (takeTariffClose p s.accepting) :=
  command_handed (kind := .tariffClose) (act := takeTariffClose p) h short long (by decide) rfl

/-- The tests of TARIFF OPEN in their order (04 R66). -/
theorem takeTariffOpen_named {p : List Byte} {s : State} {id : SlotId} (named : fieldAt 0 1 p = slotCode id) :
    takeTariffOpen p s =
      if fieldAt 1 1 p = 0 ∨ fieldAt 4 3 p = 0 ∨ 65536 < fieldAt 4 3 p then refuse .tariffOpen .range 0 s
      else if (s.tariff.slot id).state = .active then refuse .tariffOpen .state 0 s
      else if (s.tariff.slot id).state = .superseded ∧ s.tariff.marker = some id then refuse .tariffOpen .busy 0 s
      else if (s.tariff.slot id.other).holdsImage (fieldAt 1 1 p) then refuse .tariffOpen .state 0 s
      else portNext (s.setTariff (openSlot id (fieldAt 1 1 p) (fieldAt 2 2 p) (fieldAt 4 3 p) s.tariff)) := by
  unfold takeTariffOpen
  rw [named, slotIdOf_slotCode]
  rfl

/-- The tests of TARIFF DATA in their order (04 R68). -/
theorem takeTariffData_named {p : List Byte} {s : State} {id : SlotId} (named : fieldAt 0 1 p = slotCode id) :
    takeTariffData p s =
      if (s.tariff.slot id).state ≠ .loading ∨ s.tariff.checking id then refuse .tariffData .state 0 s
      else if fieldAt 1 2 p ≠ (s.tariff.slot id).accepted then
        refuse .tariffData .sequence (s.tariff.slot id).accepted s
      else if p.length - 3 = 0 ∨ 8 < p.length - 3 ∨ (s.tariff.slot id).length < fieldAt 1 2 p + (p.length - 3) then
        refuse .tariffData .range 0 s
      else if 2 ≤ s.tariff.buffer.length then refuse .tariffData .busy 0 s
      else
        portNext (s.setTariff
          { s.tariff.setSlot id
              { s.tariff.slot id with accepted := (s.tariff.slot id).accepted + (p.length - 3) } with
            buffer :=
              s.tariff.buffer ++ [{ slot := id, offset := fieldAt 1 2 p, data := p.drop 3, started := false }] }) := by
  unfold takeTariffData
  rw [named, slotIdOf_slotCode]
  simp only [List.length_drop, setSlot_buffer] <;> rfl

/-- The tests of TARIFF CLOSE in their order (04 R70). -/
theorem takeTariffClose_named {p : List Byte} {s : State} {id : SlotId} (named : fieldAt 0 1 p = slotCode id) :
    takeTariffClose p s =
      if (s.tariff.slot id).state ≠ .loading ∨ s.tariff.checking id then refuse .tariffClose .state 0 s
      else if !s.tariff.erased id ∨ !s.tariff.buffer.isEmpty then refuse .tariffClose .busy 0 s
      else if (s.tariff.slot id).accepted < (s.tariff.slot id).length then
        refuse .tariffClose .sequence (s.tariff.slot id).accepted s
      else
        portNext (s.setTariff
          { s.tariff with
            load :=
              some
                { slot := id, erase := .done,
                  check := some { crc := BitVec.ofNat 32 (fieldAt 1 4 p), offset := 0, failed := false } } }) := by
  unfold takeTariffClose
  rw [named, slotIdOf_slotCode]

/-! ### What the accepted frames do -/

/-- An OPEN that passes its tests opens the slot. -/
theorem takeTariffOpen_opens {p : List Byte} {s : State} {id : SlotId} (named : fieldAt 0 1 p = slotCode id)
    (image : fieldAt 1 1 p ≠ 0) (some : 1 ≤ fieldAt 4 3 p) (fits : fieldAt 4 3 p ≤ 65536)
    (active : (s.tariff.slot id).state ≠ .active)
    (marked : ¬ ((s.tariff.slot id).state = .superseded ∧ s.tariff.marker = .some id))
    (held : ¬ (s.tariff.slot id.other).holdsImage (fieldAt 1 1 p) = true) :
    takeTariffOpen p s =
      portNext (s.setTariff (openSlot id (fieldAt 1 1 p) (fieldAt 2 2 p) (fieldAt 4 3 p) s.tariff)) := by
  rw [takeTariffOpen_named named, if_neg (by omega), if_neg active, if_neg marked, if_neg held]

/-- A slot opened while no load runs. -/
theorem openSlot_fresh {t : Tariff} (id : SlotId) (image ordinal length : Nat) (load : t.load = none)
    (writes : t.writes = []) :
    openSlot id image ordinal length t =
      { t.setSlot id { state := .loading, image := image, ordinal := ordinal, length := length, accepted := 0,
                       invalid := none } with
        load := some { slot := id, erase := .waiting, check := none }
        writes := [{ slot := id, readyFirst := false }] } := by
  have habandon : abandonLoad id t = t := by unfold abandonLoad; rw [load]
  unfold openSlot
  rw [habandon]
  dsimp only
  rw [requestStatus_fresh (by simp [writes]), setSlot_writes, writes]
  rfl

/-- A slot opened while its own load runs (04 R74). -/
theorem openSlot_again {t : Tariff} {l : Load} (image ordinal length : Nat) (load : t.load = some l)
    (writes : t.writes = []) :
    openSlot l.slot image ordinal length t =
      { t.setSlot l.slot { state := .loading, image := image, ordinal := ordinal, length := length, accepted := 0,
                           invalid := none } with
        buffer := t.buffer.filter (fun e => e.started)
        load := some { slot := l.slot, erase := .waiting, check := none }
        port := abandonPort t.port
        writes := [{ slot := l.slot, readyFirst := false }] } := by
  unfold openSlot
  rw [abandonLoad_eq l.slot load, if_pos rfl]
  dsimp only
  rw [requestStatus_fresh (by simp [writes])]
  cases l.slot <;> simp [Tariff.setSlot, writes]

/-- A slot opened while a load of the other slot runs (04 R74). -/
theorem openSlot_other {t : Tariff} {l : Load} {id : SlotId} (image ordinal length : Nat) (load : t.load = some l)
    (other : l.slot = id.other) (writes : t.writes = []) :
    openSlot id image ordinal length t =
      { (t.setSlot id { state := .loading, image := image, ordinal := ordinal, length := length, accepted := 0,
                        invalid := none }).setSlot id.other Slot.blank with
        buffer := t.buffer.filter (fun e => e.started)
        load := some { slot := id, erase := .waiting, check := none }
        port := abandonPort t.port
        writes := [{ slot := id.other, readyFirst := false }, { slot := id, readyFirst := false }] } := by
  unfold openSlot
  rw [abandonLoad_eq id load, if_neg (by simp [other]), other]
  dsimp only
  rw [requestStatus_fresh (id := id.other) (by simp [writes]), requestStatus_fresh (by simp [writes])]
  cases id <;> simp [Tariff.setSlot, SlotId.other, writes]

/-- With no walk read and no status write waiting, the free port takes the next operation of the load. -/
theorem portTakes_load {t : Tariff} (port : t.port = none) (writes : t.writes = []) : portTakes false t = loadNext t := by
  unfold portTakes
  rw [port, writes]
  rfl

/-- The load's next operation is the program of the entry in the write buffer. -/
theorem loadNext_program {t : Tariff} {id : SlotId} {check : Option Check} {e : BufferEntry}
    (load : t.load = some { slot := id, erase := .done, check := check }) (buffer : t.buffer = [e])
    (waiting : e.started = false) :
    loadNext t = { t with buffer := [{ e with started := true }], port := some .program } := by
  unfold loadNext
  rw [load, buffer]
  simp only [startProgram, waiting, Bool.false_eq_true, ↓reduceIte]

/-- The load's next operation is a check read. -/
theorem loadNext_check {t : Tariff} {id : SlotId} {c : Check}
    (load : t.load = some { slot := id, erase := .done, check := some c }) (buffer : t.buffer = []) :
    loadNext t = { t with port := some (.checkRead true) } := by
  unfold loadNext
  rw [load, buffer]
  rfl

/-- An OPEN while no load runs: the slot is LOADING and its status write starts (04 R66). -/
theorem open_starts {s : State} {dst : Node} {p : List Byte} {id : SlotId} {opened : Slot} (h : s.hears dst)
    (long : 7 ≤ p.length) (short : p.length ≤ 12) (named : fieldAt 0 1 p = slotCode id)
    (image : fieldAt 1 1 p ≠ 0) (some : 1 ≤ fieldAt 4 3 p) (fits : fieldAt 4 3 p ≤ 65536)
    (active : (s.tariff.slot id).state ≠ .active)
    (marked : ¬ ((s.tariff.slot id).state = .superseded ∧ s.tariff.marker = .some id))
    (held : ¬ (s.tariff.slot id.other).holdsImage (fieldAt 1 1 p) = true) (walk : s.rater.walk = none)
    (port : s.tariff.port = none) (writes : s.tariff.writes = []) (load : s.tariff.load = none)
    (hopened : opened = { state := .loading, image := fieldAt 1 1 p, ordinal := fieldAt 2 2 p, length := fieldAt 4 3 p,
                          accepted := 0, invalid := none }) :
    exec (.tariffOpen 0#4 dst (goodBody .tariffOpen 0#4 dst p)) s = .next
      { s.accepting with
        tariff :=
          { s.tariff.setSlot id opened with
            load := .some { slot := id, erase := .waiting, check := none }
            port := .some (.statusWrite id (recordOf opened) false) } } := by
  have htakes : portTakes false (openSlot id (fieldAt 1 1 p) (fieldAt 2 2 p) (fieldAt 4 3 p) s.tariff) =
      { s.tariff.setSlot id opened with
        load := .some { slot := id, erase := .waiting, check := none }
        port := .some (.statusWrite id (recordOf opened) false) } := by
    rw [openSlot_fresh id _ _ _ load writes, ← hopened,
      portTakes_write (id := id) (rest := []) (by simp [port]) rfl (by simp) (.inr rfl)]
    cases id <;> simp [Tariff.setSlot, Tariff.slot, writes]
  rw [exec_tariffOpen h long short,
    takeTariffOpen_opens (s := s.accepting) named image some fits (by exact active) (by exact marked) (by exact held),
    portNext_takes (by exact started_of_hears h) (by exact walk) htakes]
  rfl

/-- An OPEN while the port is busy: its operation goes on (04 R74). -/
theorem open_waits {s : State} {dst : Node} {p : List Byte} {id : SlotId} {t : Tariff} (h : s.hears dst)
    (long : 7 ≤ p.length) (short : p.length ≤ 12) (named : fieldAt 0 1 p = slotCode id)
    (image : fieldAt 1 1 p ≠ 0) (some : 1 ≤ fieldAt 4 3 p) (fits : fieldAt 4 3 p ≤ 65536)
    (active : (s.tariff.slot id).state ≠ .active)
    (marked : ¬ ((s.tariff.slot id).state = .superseded ∧ s.tariff.marker = .some id))
    (held : ¬ (s.tariff.slot id.other).holdsImage (fieldAt 1 1 p) = true)
    (opened : openSlot id (fieldAt 1 1 p) (fieldAt 2 2 p) (fieldAt 4 3 p) s.tariff = t) (busy : t.port.isSome = true) :
    exec (.tariffOpen 0#4 dst (goodBody .tariffOpen 0#4 dst p)) s = .next { s.accepting with tariff := t } := by
  rw [exec_tariffOpen h long short,
    takeTariffOpen_opens (s := s.accepting) named image some fits (by exact active) (by exact marked) (by exact held)]
  refine congrArg _ ((portNext_busy ?_).trans ?_)
  · exact (congrArg (fun t : Tariff => t.port.isSome) opened).trans busy
  · exact congrArg s.accepting.setTariff opened

/-- A DATA that passes its tests on an empty buffer: its program starts (04 R68, R69). -/
theorem data_starts {s : State} {dst : Node} {p : List Byte} {id : SlotId} (h : s.hears dst) (long : 4 ≤ p.length)
    (short : p.length ≤ 11) (named : fieldAt 0 1 p = slotCode id) (walk : s.rater.walk = none)
    (port : s.tariff.port = none) (writes : s.tariff.writes = []) (loading : (s.tariff.slot id).state = .loading)
    (load : s.tariff.load = some { slot := id, erase := .done, check := none }) (buffer : s.tariff.buffer = [])
    (next : fieldAt 1 2 p = (s.tariff.slot id).accepted)
    (fits : (s.tariff.slot id).accepted + (p.length - 3) ≤ (s.tariff.slot id).length) :
    exec (.tariffData 0#4 dst (goodBody .tariffData 0#4 dst p)) s = .next
      { s.accepting with
        tariff :=
          { s.tariff.setSlot id
              { s.tariff.slot id with accepted := (s.tariff.slot id).accepted + (p.length - 3) } with
            port := some .program
            buffer :=
              [{ slot := id, offset := (s.tariff.slot id).accepted, data := p.drop 3, started := true }] } } := by
  have hcheck : ¬ s.tariff.checking id = true := not_checking fun l hl _ => by
    rw [load] at hl
    cases hl
    rfl
  rw [exec_tariffData h (by omega) (by omega), takeTariffData_named named,
    if_neg (not_or_intro (not_not.mpr (by exact loading)) (by exact hcheck)), if_neg (not_not.mpr (by exact next)),
    if_neg (by rw [next]; change ¬ (_ ∨ _ ∨ (s.tariff.slot id).length < _); omega),
    if_neg (by change ¬ 2 ≤ s.tariff.buffer.length; simp [buffer]), next,
    portNext_takes (by exact started_of_hears h) (by exact walk)
      ((portTakes_load (by simp [State.accepting, port]) (by simp [State.accepting, writes])).trans
        (loadNext_program (id := id) (check := none)
          (e := { slot := id, offset := (s.tariff.slot id).accepted, data := p.drop 3, started := false })
          (by simp [State.accepting, load]) (by simp [State.accepting, buffer]) rfl))]
  rfl

/-- A CLOSE that passes its tests: the check begins (04 R70). -/
theorem close_starts {s : State} {dst : Node} {p : List Byte} {id : SlotId} (h : s.hears dst) (long : 5 ≤ p.length)
    (short : p.length ≤ 12) (named : fieldAt 0 1 p = slotCode id) (walk : s.rater.walk = none)
    (port : s.tariff.port = none) (writes : s.tariff.writes = []) (loading : (s.tariff.slot id).state = .loading)
    (load : s.tariff.load = some { slot := id, erase := .done, check := none }) (buffer : s.tariff.buffer = [])
    (complete : (s.tariff.slot id).length ≤ (s.tariff.slot id).accepted) :
    exec (.tariffClose 0#4 dst (goodBody .tariffClose 0#4 dst p)) s = .next
      { s.accepting with
        tariff :=
          { s.tariff with
            port := some (.checkRead true)
            load :=
              some
                { slot := id, erase := .done,
                  check := some { crc := BitVec.ofNat 32 (fieldAt 1 4 p), offset := 0, failed := false } } } } := by
  have hcheck : ¬ s.tariff.checking id = true := not_checking fun l hl _ => by
    rw [load] at hl
    cases hl
    rfl
  have herased : s.tariff.erased id = true := (erased_iff _ _).mpr ⟨_, load, rfl, rfl⟩
  rw [exec_tariffClose h long short, takeTariffClose_named named,
    if_neg (not_or_intro (not_not.mpr (by exact loading)) (by exact hcheck)),
    if_neg (by change ¬ ((!s.tariff.erased id) = true ∨ (!s.tariff.buffer.isEmpty) = true); simp [herased, buffer]),
    if_neg (not_lt.mpr (by exact complete)),
    portNext_takes (by exact started_of_hears h) (by exact walk)
      ((portTakes_load (by exact port) (by exact writes)).trans (loadNext_check rfl (by exact buffer)))]
  rfl

/-! ### Refusals -/

/-- A refused OPEN (04 R66, 11 Table 11-3). -/
theorem open_refused {s : State} {dst : Node} {p : List Byte} {reason : RefusalReason} (h : s.hears dst)
    (long : 7 ≤ p.length) (short : p.length ≤ 12)
    (refused : takeTariffOpen p s.accepting = refuse .tariffOpen reason 0 s.accepting) :
    exec (.tariffOpen 0#4 dst (goodBody .tariffOpen 0#4 dst p)) s =
      .next (s.refusing (17#8 :: (beBytes 1 reason.code ++ [0#8, 0#8, 0#8]))) := by
  rw [exec_tariffOpen h long short, refused, refuse_accepting]
  rfl

/-- A refused DATA (04 R68, 11 Table 11-3). -/
theorem data_refused {s : State} {dst : Node} {p : List Byte} {reason : RefusalReason} {detail : Nat} (h : s.hears dst)
    (long : 3 ≤ p.length) (short : p.length ≤ 12)
    (refused : takeTariffData p s.accepting = refuse .tariffData reason detail s.accepting) :
    exec (.tariffData 0#4 dst (goodBody .tariffData 0#4 dst p)) s =
      .next (s.refusing (18#8 :: (beBytes 1 reason.code ++ beBytes 3 detail))) := by
  rw [exec_tariffData h long short, refused, refuse_accepting]
  rfl

/-- A refused CLOSE (04 R70, 11 Table 11-3). -/
theorem close_refused {s : State} {dst : Node} {p : List Byte} {reason : RefusalReason} {detail : Nat} (h : s.hears dst)
    (long : 5 ≤ p.length) (short : p.length ≤ 12)
    (refused : takeTariffClose p s.accepting = refuse .tariffClose reason detail s.accepting) :
    exec (.tariffClose 0#4 dst (goodBody .tariffClose 0#4 dst p)) s =
      .next (s.refusing (19#8 :: (beBytes 1 reason.code ++ beBytes 3 detail))) := by
  rw [exec_tariffClose h long short, refused, refuse_accepting]
  rfl

/-- A frame that names no slot is refused with RANGE. -/
theorem tariffFrames_unnamed {p : List Byte} (s : State) (large : 1 < fieldAt 0 1 p) :
    takeTariffOpen p s = refuse .tariffOpen .range 0 s ∧ takeTariffData p s = refuse .tariffData .range 0 s ∧
      takeTariffClose p s = refuse .tariffClose .range 0 s := by
  have hnone := slotIdOf_large large
  refine ⟨?_, ?_, ?_⟩
  · unfold takeTariffOpen
    rw [hnone]
  · unfold takeTariffData
    rw [hnone]
  · unfold takeTariffClose
    rw [hnone]

/-- Settles O47: the accepted frames, the refusals test by test, and the abandonment of a load by an OPEN. -/
theorem tariffFramesLoadASlot : Obligations.TariffFramesLoadASlot := by
  unfold Obligations.TariffFramesLoadASlot
  refine ⟨fun s dst p id h short _ walk port writes named => ⟨fun long load image some fits active marker other => ?_,
    ?_⟩, fun s dst p reason code h short codeA codeB => ⟨fun long refused => ?_, fun long detail refused => ?_,
      fun long detail refused => ?_⟩, ?_⟩
  · replace named : fieldAt 0 1 p = slotCode id := named
    refine open_starts h long short named image some fits active (by simp [marker]) ?_ walk port writes load rfl
    rw [holdsImage_iff]
    obtain hs | hs | hs := other <;> simp [hs]
  · replace named : fieldAt 0 1 p = slotCode id := named
    rintro _ rfl loading load buffer
    exact ⟨fun long short next fits => data_starts h long short named walk port writes loading load buffer next fits,
      fun long complete => close_starts h long short named walk port writes loading load buffer complete⟩
  · obtain ⟨rfl, large⟩ | ⟨id, named, ⟨rfl, bad⟩ | ⟨image, some, fits, hstate⟩⟩ := refused
    · exact open_refused (reason := .range) h long short (tariffFrames_unnamed _ large).1
    all_goals rw [slotCode_of codeA codeB] at named
    · exact open_refused (reason := .range) h long short ((takeTariffOpen_named named).trans (if_pos (by exact bad)))
    · have hrange : ¬ (fieldAt 1 1 p = 0 ∨ fieldAt 4 3 p = 0 ∨ 65536 < fieldAt 4 3 p) := by omega
      obtain ⟨rfl, active⟩ | ⟨rfl, superseded, marked⟩ | ⟨rfl, active, marked, image, held⟩ := hstate
      · refine open_refused (reason := .state) h long short ?_
        rw [takeTariffOpen_named named, if_neg hrange, if_pos (by exact active)]
      · refine open_refused (reason := .busy) h long short ?_
        rw [takeTariffOpen_named named, if_neg hrange, if_neg (by simp [superseded]),
          if_pos (by exact ⟨superseded, marked⟩)]
      · refine open_refused (reason := .state) h long short ?_
        rw [takeTariffOpen_named named, if_neg hrange, if_neg (by exact active),
          if_neg (by rw [not_and_or]; exact marked), if_pos (by exact (holdsImage_iff _ _).mpr ⟨held, image⟩)]
  · obtain ⟨rfl, rfl, large⟩ | ⟨id, _, named, rfl, ⟨rfl, rfl, bad⟩ | ⟨loading, check, hrest⟩⟩ := refused
    · exact data_refused (reason := .range) h long short (tariffFrames_unnamed _ large).2.1
    all_goals rw [slotCode_of codeA codeB] at named
    · refine data_refused (reason := .state) h long short ((takeTariffData_named named).trans (if_pos ?_))
      exact bad.imp_right (by exact (checking_iff _ _).mpr)
    · have hstate : ¬ ((s.accepting.tariff.slot id).state ≠ .loading ∨ s.accepting.tariff.checking id = true) :=
        not_or_intro (not_not.mpr loading) (not_checking check)
      obtain ⟨rfl, rfl, differ⟩ | ⟨next, rfl, ⟨rfl, bad⟩ | ⟨rfl, some, short', fits, full⟩⟩ := hrest
      · refine data_refused (reason := .sequence) h long short ?_
        rw [takeTariffData_named named, if_neg hstate, if_pos (by exact differ)]
        rfl
      · refine data_refused (reason := .range) h long short ?_
        rw [takeTariffData_named named, if_neg hstate, if_neg (not_not.mpr (by exact next)),
          if_pos (by rw [next]; change _ ∨ _ ∨ (s.tariff.slot id).length < _; omega)]
      · refine data_refused (reason := .busy) h long short ?_
        rw [takeTariffData_named named, if_neg hstate, if_neg (not_not.mpr (by exact next)),
          if_neg (by rw [next]; change ¬ (_ ∨ _ ∨ (s.tariff.slot id).length < _); omega), if_pos (by exact full)]
  · obtain ⟨rfl, rfl, large⟩ | ⟨id, _, named, rfl, ⟨rfl, rfl, bad⟩ | ⟨loading, check, hrest⟩⟩ := refused
    · exact close_refused (reason := .range) h long short (tariffFrames_unnamed _ large).2.2
    all_goals rw [slotCode_of codeA codeB] at named
    · refine close_refused (reason := .state) h long short ((takeTariffClose_named named).trans (if_pos ?_))
      exact bad.imp_right (by exact (checking_iff _ _).mpr)
    · have hstate : ¬ ((s.accepting.tariff.slot id).state ≠ .loading ∨ s.accepting.tariff.checking id = true) :=
        not_or_intro (not_not.mpr loading) (not_checking check)
      obtain ⟨rfl, rfl, running⟩ | ⟨rfl, rfl, erased, buffer, short'⟩ := hrest
      · refine close_refused (reason := .busy) h long short ?_
        rw [takeTariffClose_named named, if_neg hstate, if_pos]
        rw [Bool.not_eq_true', Bool.not_eq_true', Bool.eq_false_iff, ne_eq, erased_iff]
        refine running.imp (fun hrun => ?_) (by simp)
        rintro ⟨l, load, slot, done⟩
        exact hrun l load slot done
      · refine close_refused (reason := .sequence) h long short ?_
        rw [takeTariffClose_named named, if_neg hstate, if_neg, if_pos (by exact short')]
        · rfl
        · rw [Bool.not_eq_true', Bool.not_eq_true']
          exact not_or_intro (by rw [accepting_tariff, (erased_iff _ _).mpr erased]; decide) (by simp [buffer])
  · intro s dst p id l now after opened h long short named image some fits active marked other load writes port hnow
      hopened
    replace named : fieldAt 0 1 p = slotCode id := named
    have hmarked : ¬ ((s.tariff.slot id).state = .superseded ∧ s.tariff.marker = .some id) := not_and_or.mpr marked
    have hheld : ¬ (s.tariff.slot id.other).holdsImage (fieldAt 1 1 p) = true := by
      rw [holdsImage_iff]
      obtain hs | hs | hs | hs := other <;> simp [hs]
    have hport : abandonPort s.tariff.port = .some after := by
      rw [port]
      obtain ⟨x, rfl, rfl⟩ | ⟨rfl, rfl⟩ | ⟨rfl, rfl⟩ := hnow <;> rfl
    refine ⟨fun own => ?_, fun hother => ?_⟩
    · subst own
      refine open_waits h long short named image some fits active hmarked hheld ?_ rfl
      rw [openSlot_again _ _ _ load writes, hport, hopened]
    · refine open_waits h long short named image some fits active hmarked hheld ?_ rfl
      rw [openSlot_other _ _ _ load hother writes, hport, hopened]

end Sys2Proof.Laws
end

section
/-! PROOFS. The completions of the tariff memory port, and the two checks of a loaded image (04 R62, R67 to R73). -/

namespace Sys2Proof.Laws
open Sys2Proof.Machine

/-! ### Completions -/

/-- A load whose erase is done and that has nothing to program or check leaves the port free. -/
theorem loadNext_idle {t : Tariff} {id : SlotId} (load : t.load = some { slot := id, erase := .done, check := none })
    (buffer : t.buffer = []) : loadNext t = t := by
  unfold loadNext
  rw [load, buffer]
  rfl

/-- A port that takes nothing. -/
theorem portNext_quiet {s : State} {id : SlotId} (walk : s.rater.walk = none) (port : s.tariff.port = none)
    (writes : s.tariff.writes = []) (load : s.tariff.load = some { slot := id, erase := .done, check := none })
    (buffer : s.tariff.buffer = []) : portNext s = s := by
  unfold portNext
  rw [walk]
  split
  · exact congrArg s.setTariff ((portTakes_load port writes).trans (loadNext_idle load buffer))
  · rfl

theorem powered_of_started {s : State} (started : s.started = true) : s.loader.powered = true := by
  unfold State.started at started
  rw [Bool.and_eq_true] at started
  exact started.1

/-- An erase that completes for its load (04 R67). -/
theorem finishErase_live {t : Tariff} {id : SlotId} {ld : Load} (wrong : List Host.Cell) (load : t.load = some ld) :
    finishErase id true wrong t =
      { t.setArea id (memWriteCells [] (wrongWithin 0 Config.areaBytes wrong)) with
        port := none, load := some { ld with erase := .done } } := by
  unfold finishErase
  cases id <;> simp only [Tariff.setArea, load, ↓reduceIte]

/-- The area of a program that has completed (04 R69). -/
def programmed (area : Memory) (e : BufferEntry) (wrong : List Host.Cell) : Memory :=
  memWriteCells (memWriteRun area e.offset e.data) (wrongWithin e.offset (e.offset + e.data.length) wrong)

/-- A program that completes for the only entry of the write buffer (04 R69). -/
theorem finishProgram_one {t : Tariff} {e : BufferEntry} (wrong : List Host.Cell) (buffer : t.buffer = [e])
    (started : e.started = true) :
    finishProgram wrong t =
      { t.setArea e.slot (programmed (t.area e.slot) e wrong) with port := none, buffer := [] } := by
  unfold finishProgram programmed
  cases h : e.slot <;> simp [Tariff.setArea, Tariff.area, buffer, started, h]

theorem mem_wrongWithin {low high : Nat} {cells : List Host.Cell} {c : Host.Cell} (h : c ∈ wrongWithin low high cells) :
    c ∈ cells ∧ low ≤ c.1 ∧ c.1 < high ∧ c.1 < Config.areaBytes := by
  simpa [wrongWithin, and_assoc] using h

/-- An erased byte that was not left wrong reads FF (assumption log 4). -/
theorem memRead_erased {wrong : List Host.Cell} {a : Nat} (right : ∀ x ∈ wrong, x.1 ≠ a) :
    memRead (memWriteCells [] (wrongWithin 0 Config.areaBytes wrong)) a = 0xFF#8 := by
  rw [memRead_memWriteCells_outside wf_nil (fun c hc => (mem_wrongWithin hc).2.2.2)
    (fun c hc => right c (mem_wrongWithin hc).1)]
  rfl

/-- A programmed byte that was not left wrong reads back. -/
theorem memRead_programmed {area : Memory} {e : BufferEntry} {wrong : List Host.Cell} {i : Nat} {b : Byte}
    (wf : area.wf = true) (fits : e.offset + e.data.length ≤ Config.areaBytes) (byte : e.data[i]? = some b)
    (right : ∀ x ∈ wrong, x.1 ≠ e.offset + i) : memRead (programmed area e wrong) (e.offset + i) = b := by
  unfold programmed
  rw [memRead_memWriteCells_outside (memWriteRun_wf wf fits) (fun c hc => (mem_wrongWithin hc).2.2.2)
    (fun c hc => right c (mem_wrongWithin hc).1), memRead_memWriteRun_inside wf fits byte]

/-- A byte beside the entry reads as before its program. -/
theorem memRead_programmed_beside {area : Memory} {e : BufferEntry} {wrong : List Host.Cell} {a : Nat}
    (wf : area.wf = true) (fits : e.offset + e.data.length ≤ Config.areaBytes)
    (beside : a < e.offset ∨ e.offset + e.data.length ≤ a) : memRead (programmed area e wrong) a = memRead area a := by
  unfold programmed
  rw [memRead_memWriteCells_outside (memWriteRun_wf wf fits) (fun c hc => (mem_wrongWithin hc).2.2.2) ?_,
    memRead_memWriteRun_outside wf fits beside]
  intro c hc
  obtain ⟨-, hlow, hhigh, -⟩ := mem_wrongWithin hc
  omega

/-- In a sound tariff memory the areas are canonical and the entries of the write buffer lie inside them. -/
theorem memorySound_buffer {s : State} {e : BufferEntry} (h : s.memorySound = true) (he : e ∈ s.tariff.buffer) :
    Memory.wf (s.tariff.area e.slot) = true ∧ e.offset + e.data.length ≤ Config.areaBytes := by
  simp only [State.memorySound, Bool.and_eq_true, List.all_eq_true] at h
  obtain ⟨⟨⟨⟨ha, hb⟩, hbuffer⟩, -⟩, -⟩ := h
  refine ⟨?_, of_decide_eq_true (hbuffer e he)⟩
  cases e.slot
  · exact ha
  · exact hb

/-- Settles O44, from the area that each completion leaves and from what its bytes read as. -/
theorem portCompletionsWriteTheMemory : Obligations.PortCompletionsWriteTheMemory := by
  unfold Obligations.PortCompletionsWriteTheMemory
  refine ⟨fun s id q wrong started walk writes load port => ?_, fun s id wrong started walk writes buffer port load => ?_,
    fun s e wrong started sound walk writes buffer hstarted port load => ?_⟩
  · have hexec : exec (.statusWriteComplete wrong) s =
        .next (portNext (s.setTariff (({ s.tariff with port := none }).setRecord id (if wrong then none else some q)))) := by
      change execStatusWriteComplete wrong s = _
      unfold execStatusWriteComplete
      simp only [powered_of_started started, port, Bool.false_eq_true, ↓reduceIte]
    rw [hexec, portNext_idle (by cases id <;> exact ⟨rfl, walk, writes, load⟩)]
    cases id <;> rfl
  · refine ⟨memWriteCells [] (wrongWithin 0 Config.areaBytes wrong), ?_, fun h => by subst h; rfl, fun a => memRead_erased⟩
    have hexec : exec (.eraseComplete wrong) s = .next (portNext (s.setTariff (finishErase id true wrong s.tariff))) := by
      change execEraseComplete wrong s = _
      unfold execEraseComplete
      simp only [powered_of_started started, port]
    rw [hexec, finishErase_live wrong load,
      portNext_quiet (id := id) (by exact walk) (by rfl) (by cases id <;> exact writes) (by rfl) (by simp [buffer])]
    rfl
  · obtain ⟨wf, fits⟩ := memorySound_buffer (e := e) sound (by simp [buffer])
    refine ⟨programmed (s.tariff.area e.slot) e wrong, ?_, fun i b byte right => memRead_programmed wf fits byte right,
      fun a beside => memRead_programmed_beside wf fits beside⟩
    have hexec : exec (.programComplete wrong) s = .next (portNext (s.setTariff (finishProgram wrong s.tariff))) := by
      change execProgramComplete wrong s = _
      unfold execProgramComplete
      simp only [powered_of_started started, port]
    rw [hexec, finishProgram_one wrong buffer hstarted,
      portNext_quiet (id := e.slot) (by exact walk) (by rfl) (by cases e.slot <;> exact writes) (by simp [load]) (by rfl)]
    rfl

/-! ### What the two checks test -/

/-- The pieces of a list, each by its place. -/
theorem pieces_eq {α : Type} (size n : Nat) (xs : List α) :
    pieces size n xs = (List.range n).map fun i => (xs.drop (size * i)).take size := by
  induction n generalizing xs with
  | zero => rfl
  | succ n ih =>
    rw [pieces, ih, List.range_succ_eq_map, List.map_cons, List.map_map, Nat.mul_zero, List.drop_zero]
    refine congrArg _ (List.map_congr_left fun i _ => ?_)
    simp only [Function.comp, List.drop_drop, Nat.mul_succ, Nat.add_comm]

/-- A field of a piece lies in the whole at the piece's place. -/
theorem fieldAt_piece {off n size : Nat} (inside : off + n ≤ size) (k : Nat) (bytes : List Byte) :
    fieldAt off n ((bytes.drop k).take size) = fieldAt (k + off) n bytes := by
  unfold fieldAt
  rw [List.drop_take, List.drop_drop, List.take_take, Nat.min_eq_left (by omega)]

theorem beNat_byte_lt {bytes : List Byte} (h : bytes.length ≤ 1) : beNat bytes < 256 := by
  match bytes, h with
  | [], _ => decide
  | [b], _ => simpa [beNat] using b.isLt

theorem fieldAt_byte_lt (off : Nat) (bytes : List Byte) : fieldAt off 1 bytes < 256 :=
  beNat_byte_lt (List.length_take_le _ _)

/-- The top bit of a byte. -/
theorem bitAt_seven_iff (off : Nat) (bytes : List Byte) : bitAt off 7 bytes = true ↔ 128 ≤ fieldAt off 1 bytes := by
  have h := fieldAt_byte_lt off bytes
  unfold bitAt
  generalize fieldAt off 1 bytes = n at h
  rw [Nat.testBit_eq_decide_div_mod_eq, decide_eq_true_iff]
  omega

theorem inRange_iff (low high v : Nat) : inRange low high v = true ↔ low ≤ v ∧ v ≤ high := by simp [inRange]

/-- The CRC check (04 R71). -/
theorem crcOk_iff (length : Nat) (carried : BitVec 32) (bytes : List Byte) :
    crcOk length carried bytes = true ↔
      5 ≤ length ∧ crc32 (bytes.take (length - 4)) = carried ∧
        BitVec.ofNat 32 (fieldAt (length - 4) 4 bytes) = carried := by
  simp [crcOk, and_assoc]

/-- The directory entries pass the structure check, field by field (04 R72, 11 Table 11-6). -/
theorem entriesOk_iff (tables : Nat) (bytes : List Byte) :
    (pieces 16 128 (bytes.drop 20)).all (fun e => entryOk tables (parseEntry e)) = true ↔
      ∀ i, i < 128 → 128 ≤ fieldAt (20 + 16 * i) 1 bytes →
        fieldAt (21 + 16 * i) 1 bytes < tables ∧ 1 ≤ fieldAt (22 + 16 * i) 2 bytes ∧
          fieldAt (22 + 16 * i) 2 bytes ≤ 4000 ∧ fieldAt (34 + 16 * i) 1 bytes ≤ 3 := by
  rw [pieces_eq, List.all_map, List.all_eq_true]
  simp only [List.mem_range, Function.comp]
  refine forall₂_congr fun i _ => ?_
  have hfield : ∀ off n, off + n ≤ 16 →
      fieldAt off n (((bytes.drop 20).drop (16 * i)).take 16) = fieldAt (20 + off + 16 * i) n bytes := by
    intro off n inside
    rw [List.drop_drop, fieldAt_piece inside]
    congr 1
    omega
  have hpresent : bitAt 0 7 (((bytes.drop 20).drop (16 * i)).take 16) = true ↔ 128 ≤ fieldAt (20 + 16 * i) 1 bytes := by
    rw [bitAt_seven_iff, hfield 0 1 (by decide)]
  unfold entryOk parseEntry
  simp only [hfield _ _ (show 1 + 1 ≤ 16 by decide), hfield _ _ (show 2 + 2 ≤ 16 by decide),
    hfield _ _ (show 14 + 1 ≤ 16 by decide), Bool.or_eq_true, Bool.not_eq_true', Bool.and_eq_true, decide_eq_true_iff,
    inRange_iff]
  rw [← Bool.not_eq_true, hpresent]
  constructor
  · rintro (absent | ⟨⟨table, factor⟩, frame⟩) present
    · exact absurd present absent
    · exact ⟨table, factor.1, factor.2, frame.2⟩
  · intro h
    by_cases present : 128 ≤ fieldAt (20 + 16 * i) 1 bytes
    · obtain ⟨table, low, high, frame⟩ := h present
      exact .inr ⟨⟨table, low, high⟩, Nat.zero_le _, frame⟩
    · exact .inl present

/-- The bounds rise exactly when each is below the next. -/
theorem boundsRise_iff (steps : List Machine.Step) :
    boundsRise steps = true ↔
      ∀ (i : Nat) (h : i + 1 < steps.length), (steps[i]'(by omega)).bound < steps[i + 1].bound := by
  induction steps with
  | nil => simp [boundsRise]
  | cons a rest ih =>
    cases rest with
    | nil => simp [boundsRise]
    | cons b rest =>
      rw [boundsRise, Bool.and_eq_true, decide_eq_true_iff, ih]
      constructor
      · rintro ⟨first, others⟩ i hi
        cases i with
        | zero => exact first
        | succ i => exact others i (by simpa using hi)
      · intro h
        exact ⟨h 0 (by simp), fun i hi => h (i + 1) (by simpa using hi)⟩

/-- A step table passes the structure check, field by field (04 R72, 11 Table 11-5). -/
theorem tableOk_iff (bytes : List Byte) :
    tableOk bytes = true ↔
      1 ≤ fieldAt 0 1 bytes ∧ fieldAt 0 1 bytes ≤ 16 ∧
        (∀ i, i < fieldAt 0 1 bytes →
          1 ≤ fieldAt (8 + 6 * i) 2 bytes ∧ fieldAt (8 + 6 * i) 2 bytes ≤ 25000 ∧
            fieldAt (10 + 6 * i) 4 bytes ≤ 999999) ∧
        ∀ i, i + 1 < fieldAt 0 1 bytes → fieldAt (8 + 6 * i) 2 bytes < fieldAt (14 + 6 * i) 2 bytes := by
  have hfield : ∀ i off n, off + n ≤ 6 →
      fieldAt off n (((bytes.drop 8).drop (6 * i)).take 6) = fieldAt (8 + off + 6 * i) n bytes := by
    intro i off n inside
    rw [List.drop_drop, fieldAt_piece inside]
    congr 1
    omega
  unfold tableOk
  rw [Bool.and_eq_true, Bool.and_eq_true, inRange_iff, and_assoc, and_assoc]
  refine and_congr_right fun _ => and_congr_right fun high => and_congr ?_ ?_
  all_goals
    unfold parseSteps
    rw [Nat.min_eq_left high, pieces_eq]
  · simp only [List.all_map, List.all_eq_true, List.mem_range, Function.comp, parseStep, Bool.and_eq_true,
      decide_eq_true_iff, inRange_iff, hfield _ _ _ (show 0 + 2 ≤ 6 by decide), hfield _ _ _ (show 2 + 4 ≤ 6 by decide),
      and_assoc]
  · rw [boundsRise_iff]
    simp only [List.length_map, List.length_range, List.getElem_map, List.getElem_range, parseStep,
      hfield _ _ _ (show 0 + 2 ≤ 6 by decide)]
    refine forall₂_congr fun i _ => ?_
    rw [show 8 + 0 + 6 * (i + 1) = 14 + 6 * i by omega]

/-- The step tables pass the structure check, field by field (04 R72). -/
theorem tablesOk_iff (tables : Nat) (bytes : List Byte) :
    (pieces 104 tables (bytes.drop 2068)).all tableOk = true ↔
      ∀ j used, j < tables → used = fieldAt (2068 + 104 * j) 1 bytes →
        1 ≤ used ∧ used ≤ 16 ∧
          (∀ i, i < used →
            1 ≤ fieldAt (2076 + 104 * j + 6 * i) 2 bytes ∧ fieldAt (2076 + 104 * j + 6 * i) 2 bytes ≤ 25000 ∧
              fieldAt (2078 + 104 * j + 6 * i) 4 bytes ≤ 999999) ∧
          ∀ i, i + 1 < used →
            fieldAt (2076 + 104 * j + 6 * i) 2 bytes < fieldAt (2082 + 104 * j + 6 * i) 2 bytes := by
  rw [pieces_eq, List.all_map, List.all_eq_true]
  simp only [List.mem_range, Function.comp]
  rw [forall_congr' fun j => forall_comm]
  simp only [forall_eq]
  refine forall₂_congr fun j _ => ?_
  have hfield : ∀ off n, off + n ≤ 104 →
      fieldAt off n (((bytes.drop 2068).drop (104 * j)).take 104) = fieldAt (2068 + 104 * j + off) n bytes := by
    intro off n inside
    rw [List.drop_drop, fieldAt_piece inside]
  rw [tableOk_iff, hfield 0 1 (by decide), Nat.add_zero]
  generalize fieldAt (2068 + 104 * j) 1 bytes = used
  refine and_congr_right fun _ => and_congr_right fun high => and_congr ?_ ?_
  · refine forall₂_congr fun i hi => ?_
    rw [hfield _ _ (show 8 + 6 * i + 2 ≤ 104 by omega), hfield _ _ (show 10 + 6 * i + 4 ≤ 104 by omega),
      show 2068 + 104 * j + (8 + 6 * i) = 2076 + 104 * j + 6 * i by omega,
      show 2068 + 104 * j + (10 + 6 * i) = 2078 + 104 * j + 6 * i by omega]
  · refine forall₂_congr fun i hi => ?_
    rw [hfield _ _ (show 8 + 6 * i + 2 ≤ 104 by omega), hfield _ _ (show 14 + 6 * i + 2 ≤ 104 by omega),
      show 2068 + 104 * j + (8 + 6 * i) = 2076 + 104 * j + 6 * i by omega,
      show 2068 + 104 * j + (14 + 6 * i) = 2082 + 104 * j + 6 * i by omega]

/-- The structure check, byte by byte (04 R72). -/
theorem structureOk_iff (slot : Slot) (bytes : List Byte) :
    structureOk slot bytes = true ↔
      fieldAt 0 1 bytes = slot.image ∧ fieldAt 1 2 bytes = slot.ordinal ∧ 1 ≤ fieldAt 12 1 bytes ∧
        fieldAt 12 1 bytes ≤ 40 ∧ slot.length = 2072 + 104 * fieldAt 12 1 bytes ∧
        (pieces 16 128 (bytes.drop 20)).all (fun e => entryOk (fieldAt 12 1 bytes) (parseEntry e)) = true ∧
        (pieces 104 (fieldAt 12 1 bytes) (bytes.drop 2068)).all tableOk = true := by
  unfold structureOk imageLength
  simp only [Bool.and_eq_true, beq_iff_eq, inRange_iff, and_assoc]

/-! ### The end of a check (04 R73) -/

/-- The descriptor after a check whose CRC does not hold. -/
theorem checkedSlot_crc {slot : Slot} {carried : BitVec 32} {failed : Bool} {bytes : List Byte}
    (h : failed = true ∨ crcOk slot.length carried bytes = false) :
    checkedSlot slot carried failed bytes = { slot with state := .invalid, accepted := 0, invalid := some .crc } := by
  unfold checkedSlot
  rw [if_pos (by simpa using h)]

/-- The descriptor after a check whose CRC holds, by the structure check. -/
theorem checkedSlot_held {slot : Slot} {carried : BitVec 32} {bytes : List Byte}
    (h : crcOk slot.length carried bytes = true) :
    checkedSlot slot carried false bytes =
      if structureOk slot bytes then { slot with state := .ready, accepted := 0, invalid := none }
      else { slot with state := .invalid, accepted := 0, invalid := some .structural } := by
  unfold checkedSlot
  rw [if_neg (by simp [h])]
  cases structureOk slot bytes <;> rfl

/-- A check read that completes for the load in progress. -/
theorem exec_checkRead {s : State} {id : SlotId} {c : Check} (count : Nat) (error : Bool) (started : s.started = true)
    (port : s.tariff.port = some (.checkRead true))
    (load : s.tariff.load = some { slot := id, erase := .done, check := some c }) :
    exec (.checkReadComplete count error) s =
      let d : Check := { c with offset := c.offset + count, failed := c.failed || error }
      let u := s.setTariff { s.tariff with port := none }
      if (s.tariff.slot id).length ≤ d.offset then .next (portNext (finishCheck id d u))
      else .next (portNext (u.setTariff
        { u.tariff with load := some { slot := id, erase := .done, check := some d } })) := by
  change execCheckReadComplete count error s = _
  unfold execCheckReadComplete
  simp only [powered_of_started started, port, State.setTariff_tariff, load] <;> rfl

/-- The end of a check while no date is held: the slot's verdict, and its status write requested. -/
theorem finishCheck_undated {s : State} {id : SlotId} {c : Check} {slot : Slot} (date : s.tariff.date = none)
    (writes : s.tariff.writes = [])
    (verdict : checkedSlot (s.tariff.slot id) c.crc c.failed
      (memReadRun (s.tariff.slot id).length 0 (s.tariff.area id)) = slot) :
    finishCheck id c s =
      s.setTariff
        { s.tariff.setSlot id slot with load := none, writes := [{ slot := id, readyFirst := false }] } := by
  have hrequest : requestStatus id { s.tariff.setSlot id slot with load := none } =
      { s.tariff.setSlot id slot with load := none, writes := [{ slot := id, readyFirst := false }] } := by
    rw [requestStatus_fresh (by simp [writes])]
    simp [writes]
  unfold finishCheck
  dsimp only
  rw [verdict, hrequest]
  split
  · unfold evaluateChangeover
    rw [State.setTariff_tariff]
    cases id <;> simp only [Tariff.setSlot, date]
  · rfl

/-- The check read that ends a check: the verdict, and the start of its status write. -/
theorem checkRead_ends {s : State} {id : SlotId} {c : Check} {count : Nat} {error : Bool} {slot : Slot}
    (started : s.started = true) (port : s.tariff.port = some (.checkRead true)) (walk : s.rater.walk = none)
    (writes : s.tariff.writes = []) (date : s.tariff.date = none)
    (load : s.tariff.load = some { slot := id, erase := .done, check := some c })
    (last : (s.tariff.slot id).length ≤ c.offset + count)
    (verdict : checkedSlot (s.tariff.slot id) c.crc (c.failed || error)
      (memReadRun (s.tariff.slot id).length 0 (s.tariff.area id)) = slot) :
    exec (.checkReadComplete count error) s = .next
      { s with
        tariff :=
          { s.tariff.setSlot id slot with
            load := none, port := some (.statusWrite id (recordOf slot) false) } } := by
  rw [exec_checkRead count error started port load]
  dsimp only
  rw [if_pos last, finishCheck_undated (slot := slot) (by exact date) (by exact writes) (by cases id <;> exact verdict),
    portNext_takes (by exact started) (by exact walk)
      (portTakes_write (id := id) (rest := []) (by simp) rfl (by simp) (.inr rfl))]
  cases id <;> simp [Tariff.setSlot, Tariff.slot, writes, State.setTariff]

/-- Settles O45, from the verdict of `checkedSlot` and what the two checks test. -/
theorem checkReadDecidesTheSlot : Obligations.CheckReadDecidesTheSlot := by
  unfold Obligations.CheckReadDecidesTheSlot
  refine ⟨?_, crcOk_iff, ?_⟩
  · rintro s id c count error slot bytes started port walk writes buffer date load rfl rfl
    refine ⟨fun before => ?_, fun v why last verdict => ?_⟩
    · rw [exec_checkRead count error started port load]
      dsimp only
      rw [if_neg (not_le.mpr before), portNext_takes (by exact started) (by exact walk)
        ((portTakes_load rfl (by exact writes)).trans (loadNext_check rfl (by exact buffer)))]
      simp [State.setTariff, port]
    · have ends := fun slot => checkRead_ends (slot := slot) (error := error) started port walk writes date load last
      obtain ⟨rfl, rfl, bad⟩ | ⟨rfl, rfl, good, noError, crc, structural⟩ | ⟨rfl, rfl, good, noError, crc, structural⟩ :=
        verdict
      · exact ends _ (checkedSlot_crc (by rw [Bool.or_eq_true, or_assoc]; exact bad))
      · exact ends _ (by rw [good, noError, Bool.or_self, checkedSlot_held crc, structural]; rfl)
      · exact ends _ (by rw [good, noError, Bool.or_self, checkedSlot_held crc, structural]; rfl)
  · rintro slot bytes tables rfl -
    rw [structureOk_iff, entriesOk_iff, tablesOk_iff]

end Sys2Proof.Laws
end

section
/-! PROOFS. A column of the indicium; the commit history ring; the terminal's controls and the frames of other stations
that name a record (06 R119 to R131, 08 R154 to R159). -/

namespace Sys2Proof.Laws
open Sys2Proof.Machine

/-! ### Column composition -/

/-- A glyph column lies from its top row on, clipped at the cell height (11 R199, 08 R159). -/
theorem placeGlyph_getMsbD {height top row : Nat} (g : BitVec 16) (inside : row < 48) (cell : height ≤ 16) :
    (placeGlyph height top g).getMsbD row = true ↔
      ∃ i, row = top + i ∧ i < height ∧ g.getMsbD i = true := by
  have hbits : ∀ i, (((g >>> (16 - height)) <<< (16 - height)).setWidth 48 <<< 32).getMsbD i =
      (decide (i < height) && g.getMsbD i) := by
    intro i
    rw [BitVec.getMsbD_shiftLeft, BitVec.getMsbD_setWidth, BitVec.getMsbD_shiftLeft, BitVec.getMsbD_ushiftRight]
    by_cases hi : i < height
    · simp [hi]
      omega
    · simp [hi]
      omega
  unfold placeGlyph
  rw [BitVec.getMsbD_ushiftRight]
  constructor
  · intro h
    by_cases htop : row < top
    · simp [htop] at h
    · simp only [htop, hbits, Bool.and_eq_true, decide_eq_true_iff] at h
      obtain ⟨-, -, hcell, hg⟩ := h
      exact ⟨row - top, by omega, hcell, hg⟩
  · rintro ⟨i, rfl, hi, hg⟩
    simp only [hbits, Nat.add_sub_cancel_left, hg]
    simp [hi, inside]

/-- The glyph code that stands in a cell of a field. -/
theorem fieldGlyphs_getD (f : Field) (glyphs : List Nat) {cell : Nat} (h : cell < glyphs.length) :
    (fieldGlyphs f glyphs).getD cell blankGlyph = if f.blanked then 10 else glyphs.getD cell 10 := by
  unfold fieldGlyphs blankGlyph
  split <;> simp [h]

theorem fieldGlyphs_length (f : Field) (glyphs : List Nat) : (fieldGlyphs f glyphs).length = glyphs.length := by
  unfold fieldGlyphs
  split <;> simp

/-- A field has a row of a column exactly where the glyph column of one of its cells has it (08 R158). -/
theorem fieldColumn_iff {cfg : ConfigCopy} {c row : Nat} (inside : row < 48) (wide : 1 ≤ cfg.cellWidth)
    (high : cfg.cellHeight ≤ 16) (f : Field) (glyphs : List Nat) :
    (fieldColumn cfg f glyphs c).getMsbD row = true ↔
      ∃ i j cell, c = f.start + cell * cfg.cellWidth + j ∧ cell < glyphs.length ∧ j < cfg.cellWidth ∧
        row = f.top + i ∧ i < cfg.cellHeight ∧
        ((cfg.glyphs.getD (if f.blanked then 10 else glyphs.getD cell 10) []).getD j 0#16).getMsbD i = true := by
  unfold fieldColumn
  dsimp only
  rw [fieldGlyphs_length]
  constructor
  · intro h
    split at h
    case isFalse => simp at h
    case isTrue hstands =>
      obtain ⟨hstart, hend⟩ := hstands
      have hcell : (c - f.start) / cfg.cellWidth < glyphs.length := by
        rw [Nat.div_lt_iff_lt_mul wide]
        omega
      rw [fieldGlyphs_getD f glyphs hcell, placeGlyph_getMsbD _ inside high] at h
      obtain ⟨i, hrow, hi, hg⟩ := h
      refine ⟨i, (c - f.start) % cfg.cellWidth, (c - f.start) / cfg.cellWidth, ?_, hcell, Nat.mod_lt _ wide, hrow, hi, hg⟩
      have := Nat.div_add_mod' (c - f.start) cfg.cellWidth
      omega
  · rintro ⟨i, j, cell, rfl, hcell, hj, hrow, hi, hg⟩
    have hoffset : f.start + cell * cfg.cellWidth + j - f.start = j + cfg.cellWidth * cell := by
      rw [Nat.mul_comm]
      omega
    have hbound : (cell + 1) * cfg.cellWidth ≤ glyphs.length * cfg.cellWidth := Nat.mul_le_mul_right _ hcell
    rw [Nat.succ_mul] at hbound
    rw [if_pos ⟨by omega, by omega⟩, hoffset, Nat.add_mul_div_left _ _ wide, Nat.div_eq_of_lt hj, Nat.zero_add,
      Nat.add_mul_mod_self_left, Nat.mod_eq_of_lt hj, fieldGlyphs_getD f glyphs hcell, placeGlyph_getMsbD _ inside high]
    exact ⟨i, hrow, hi, hg⟩

/-- Settles O60: a column is the join of the frame image and of the four fields. -/
theorem columnJoinsFrameAndFields : Obligations.ColumnJoinsFrameAndFields := by
  unfold Obligations.ColumnJoinsFrameAndFields
  intro cfg p c row inside wide high
  unfold composeColumn
  simp only [BitVec.getMsbD_or, Bool.or_eq_true, fieldColumn_iff inside wide high]
  constructor
  · rintro ((((h | ⟨i, j, cell, h⟩) | ⟨i, j, cell, h⟩) | ⟨i, j, cell, h⟩) | ⟨i, j, cell, h⟩)
    · exact .inl h
    · exact .inr ⟨_, _, i, j, cell, .inl ⟨rfl, rfl⟩, h⟩
    · exact .inr ⟨_, _, i, j, cell, .inr (.inl ⟨rfl, rfl⟩), h⟩
    · exact .inr ⟨_, _, i, j, cell, .inr (.inr (.inl ⟨rfl, rfl⟩)), h⟩
    · exact .inr ⟨_, _, i, j, cell, .inr (.inr (.inr ⟨rfl, rfl⟩)), h⟩
  · rintro (h | ⟨f, glyphs, i, j, cell, ⟨rfl, rfl⟩ | ⟨rfl, rfl⟩ | ⟨rfl, rfl⟩ | ⟨rfl, rfl⟩, h⟩)
    · exact .inl (.inl (.inl (.inl h)))
    · exact .inl (.inl (.inl (.inr ⟨i, j, cell, h⟩)))
    · exact .inl (.inl (.inr ⟨i, j, cell, h⟩))
    · exact .inl (.inr ⟨i, j, cell, h⟩)
    · exact .inr ⟨i, j, cell, h⟩

/-! ### Frames of other stations -/

/-- A heard frame of a station, of a kind that stations may send, runs its block's act. -/
theorem peer_handed {kind : Kind} {src dst : Node} {p : List Byte} {act : State → State} {s : State} (h : s.hears dst)
    (short : p.length ≤ 12) (length : kind.payloadLength ≤ p.length) (source : src ≠ 15#4)
    (terminal : kind.terminal = false) (reset : kind ≠ .lineReset) (report : kind.report = false) :
    receive kind src dst (goodBody kind src dst p) act s = .next (act s.accepting) :=
  receive_handed h short length source (by simp [terminal]) (fun k => absurd k reset) report

@[simp] theorem accepting_cc (s : State) : s.accepting.cc = s.cc := rfl
@[simp] theorem accepting_inhibit (s : State) : s.accepting.inhibit = s.inhibit := rfl

/-! ### The commit history ring -/

/-- One step of the search of the ring: of two matches the nearer, and of two as near the later (06 R129). -/
def nearerEntry (w : Nat) (k : Pos) (best : Option (RingEntry × Nat)) (e : RingEntry × Nat) : Option (RingEntry × Nat) :=
  if within w e.1.key k then
    match best with
    | none => some e
    | some b => if apart b.1.key k < apart e.1.key k then some b else some e
  else best

theorem ringMatch_eq (w : Nat) (k : Pos) (ring : List RingEntry) :
    ringMatch w k ring = (ring.zipIdx.foldl (nearerEntry w k) none).map (fun e => e.2) := rfl

/-- Entries that a key does not match do not change the choice among those before them. -/
theorem nearerEntry_skip {w : Nat} {k : Pos} {es : List RingEntry} (n : Nat) (best : Option (RingEntry × Nat))
    (others : ∀ e ∈ es, within w e.key k = false) : (es.zipIdx n).foldl (nearerEntry w k) best = best := by
  induction es generalizing n with
  | nil => rfl
  | cons e es ih =>
    have hskip : nearerEntry w k best (e, n) = best := if_neg (by simp [others e (by simp)])
    rw [List.zipIdx_cons, List.foldl_cons, hskip]
    exact ih (n + 1) fun x hx => others x (by simp [hx])

/-- A key that no entry matches. -/
theorem ringMatch_none {w : Nat} {k : Pos} {ring : List RingEntry} (others : ∀ e ∈ ring, within w e.key k = false) :
    ringMatch w k ring = none := by
  rw [ringMatch_eq, nearerEntry_skip 0 none others]
  rfl

/-- A key that one entry alone matches. -/
theorem ringMatch_one {w : Nat} {k : Pos} {front back : List RingEntry} {e : RingEntry} (near : within w e.key k = true)
    (others : ∀ x ∈ front ++ back, within w x.key k = false) :
    ringMatch w k (front ++ e :: back) = some front.length := by
  have htake : nearerEntry w k none (e, 0 + front.length) = some (e, 0 + front.length) := if_pos near
  rw [ringMatch_eq, List.zipIdx_append, List.zipIdx_cons, List.foldl_append, List.foldl_cons,
    nearerEntry_skip 0 none fun x hx => others x (by simp [hx]), htake,
    nearerEntry_skip _ _ fun x hx => others x (by simp [hx])]
  simp

theorem exec_dispute {s : State} {src dst : Node} {p : List Byte} (h : s.hears dst) (long : 7 ≤ p.length)
    (short : p.length ≤ 12) (source : src ≠ 15#4) :
    exec (.dispute src dst (goodBody .dispute src dst p)) s = .next (takeDispute src p s.accepting) :=
  peer_handed (kind := .dispute) (act := takeDispute src p) h short long source rfl (by decide) rfl

/-- A DISPUTE that names this station, on a key that no entry matches. -/
theorem takeDispute_none {src : Node} {p : List Byte} {s : State} (source : src ≠ 0#4)
    (named : fieldAt 3 1 p = s.loader.config.station)
    (none : ringMatch s.loader.config.window (pos (fieldAt 0 3 p)) s.cc.ring = .none) : takeDispute src p s = s := by
  unfold takeDispute
  rw [if_neg (by simp [source, named]), none]

/-- A DISPUTE that names this station meets the entry that its key matches (06 R129). -/
theorem takeDispute_some {src : Node} {p : List Byte} {s : State} {i : Nat} {e : RingEntry} (source : src ≠ 0#4)
    (named : fieldAt 3 1 p = s.loader.config.station)
    (some : ringMatch s.loader.config.window (pos (fieldAt 0 3 p)) s.cc.ring = .some i) (entry : s.cc.ring[i]? = .some e) :
    takeDispute src p s =
      if e.marked then s
      else if markedCount (markEntry i s.cc.ring) = s.loader.config.disputeLimit then
        (s.setCc { s.cc with ring := markEntry i s.cc.ring }).setInhibit { s.inhibit with scaleSuspect := true }
      else s.setCc { s.cc with ring := markEntry i s.cc.ring } := by
  unfold takeDispute
  rw [if_neg (by simp [source, named]), some]
  dsimp only
  rw [entry, Option.map_some, Option.getD_some]
  rfl

/-- Settles O58, from the one entry that the key matches. -/
theorem disputesMarkTheRing : Obligations.DisputesMarkTheRing := by
  unfold Obligations.DisputesMarkTheRing
  rintro s src dst p k h long short source source' named rfl
  have hnamed : fieldAt 3 1 p = s.accepting.loader.config.station := named
  rw [exec_dispute h long short source']
  refine ⟨fun none => ?_, fun front e back ring near others => ?_⟩
  · rw [takeDispute_none source hnamed (ringMatch_none (by exact none))]
  · have hone : ringMatch s.accepting.loader.config.window (pos (fieldAt 0 3 p)) s.accepting.cc.ring =
        some front.length := by
      rw [accepting_cc, ring]
      exact ringMatch_one near others
    have hentry : s.cc.ring[front.length]? = some e := by simp [ring]
    have hmark : markEntry front.length s.cc.ring = front ++ { e with marked := true } :: back := by
      unfold markEntry
      rw [hentry, ring]
      simp
    rw [takeDispute_some source hnamed hone hentry]
    refine ⟨fun marked => if_pos marked ▸ rfl, fun unmarked => ?_⟩
    have hcount : markedCount (front ++ { e with marked := true } :: back) =
        (s.cc.ring.filter (fun x => x.marked)).length + 1 := by
      simp [markedCount, ring, unmarked]
      omega
    rw [if_neg (by simp [unmarked]), accepting_cc, hmark, hcount]
    split
    case isTrue limit =>
      simp [State.setInhibit, State.setCc, show _ = s.loader.config.disputeLimit from limit]
    case isFalse below =>
      simp [State.setCc, show ¬ _ = s.loader.config.disputeLimit from below]

/-! ### The terminal's controls and ONLINE -/

theorem exec_online {s : State} {src dst : Node} {p : List Byte} (h : s.hears dst) (long : 6 ≤ p.length)
    (short : p.length ≤ 12) (source : src ≠ 15#4) :
    exec (.online src dst (goodBody .online src dst p)) s = .next (takeOnline src p s.accepting) :=
  peer_handed (kind := .online) (act := takeOnline src p) h short long source rfl (by decide) rfl

/-- Settles O59. -/
theorem controlsActOnTheInhibitSet : Obligations.ControlsActOnTheInhibitSet := by
  unfold Obligations.ControlsActOnTheInhibitSet
  refine ⟨fun s dst p h short => ⟨?_, ?_, ?_⟩, ?_⟩
  · exact command_handed (kind := .pause) (act := takePause true) h short (Nat.zero_le _) (by decide) rfl
  · exact command_handed (kind := .resume) (act := takePause false) h short (Nat.zero_le _) (by decide) rfl
  · exact command_handed (kind := .clearScale) (act := takeClearScale) h short (Nat.zero_le _) (by decide) rfl
  · rintro s src dst p u h long short source source' rfl
    refine ⟨fun own => ?_, fun other => ?_⟩
    · rw [exec_online h long short source']
      unfold takeOnline
      rw [if_neg source, if_pos (by exact own)]
      rfl
    · rw [exec_online h long short source']
      unfold takeOnline
      rw [if_neg source, if_neg (by exact other)]
      have hlayout : layoutHolds s.loader.config (peerOf src p) =
          !(if src.toNat < s.loader.config.station then
              !(decide (fieldAt 0 2 p < s.loader.config.offset) &&
                decide (fieldAt 0 2 p + fieldAt 4 2 p ≤ s.loader.config.offset + s.loader.config.d))
            else decide (fieldAt 0 2 p ≤ s.loader.config.offset)) := by
        unfold layoutHolds peerOf
        dsimp only
        split
        · rw [Bool.not_not]
        · rw [← decide_not, decide_eq_decide]
          omega
      have hheld : layoutHolds (s.accepting.setCc
          { s.cc with
            peers := peerOf src p :: s.cc.peers.filter (fun x => !(x.station == (peerOf src p).station)) }).loader.config
          (peerOf src p) = _ := hlayout
      rw [accepting_cc]
      dsimp only
      rw [hheld]
      generalize (if src.toNat < s.loader.config.station then
          !(decide (fieldAt 0 2 p < s.loader.config.offset) &&
            decide (fieldAt 0 2 p + fieldAt 4 2 p ≤ s.loader.config.offset + s.loader.config.d))
        else decide (fieldAt 0 2 p ≤ s.loader.config.offset)) = broken
      cases broken
      · simp [State.setCc, peerOf]
      · simp [State.setCc, State.setInhibit, peerOf]

/-! ### Releases -/

theorem exec_release {s : State} {src dst : Node} {p : List Byte} (h : s.hears dst) (long : 3 ≤ p.length)
    (short : p.length ≤ 12) (source : src ≠ 15#4) :
    exec (.release src dst (goodBody .release src dst p)) s = .next (takeRelease src p s.accepting) :=
  peer_handed (kind := .release) (act := takeRelease src p) h short long source rfl (by decide) rfl

/-- A key that the only record matches. -/
theorem matching_one {s : State} {r : Record} {k : Pos} (only : s.table.records = [r])
    (near : within s.loader.config.window r.key k = true) : s.matching k = some r := by
  unfold State.matching
  rw [only]
  simp [matchAmong, near]

/-- A RELEASE of a station on the record that its key names (06 R119). -/
theorem takeRelease_matched {src : Node} {p : List Byte} {s : State} {r : Record} (source : src ≠ 0#4)
    (other : src ≠ s.loader.number) (only : s.table.records = [r])
    (near : within s.loader.config.window r.key (BitVec.ofNat 24 (fieldAt 0 3 p)) = true) :
    takeRelease src p s =
      if r.claim = .foreign ∧ r.foreign.map (fun f => f.station) = some src.toNat then releaseMatched r s else s := by
  unfold takeRelease
  rw [if_neg (by simp [source, other]), show s.matching (pos (fieldAt 0 3 p)) = some r from matching_one only near]

theorem reachedD_iff (r : Record) : r.reachedD = true ↔ r.awaits ≠ .ps ∧ r.awaits ≠ .pe ∧ r.awaits ≠ .d := by
  unfold Record.reachedD
  split <;> simp_all

theorem releaseMatched_noticed {r : Record} {s : State} (noticed : r.presence = .noticed) :
    releaseMatched r s = removeRecord r.key s := by
  unfold releaseMatched
  rw [noticed]

theorem releaseMatched_present {r : Record} {s : State} (present : r.presence = .present) :
    releaseMatched r s =
      if r.reachedD then endClaim r.key .releasedLate s
      else s.updateRecord r.key (fun r => { r with claim := .opened, foreign := none }) := by
  unfold releaseMatched
  rw [present]

/-- Settles O57, by the presence of the record and the target it awaits. -/
theorem releaseReopensOrEnds : Obligations.ReleaseReopensOrEnds := by
  unfold Obligations.ReleaseReopensOrEnds
  intro s src dst p r h long short source source' other only near
  have hself : holding r s.accepting = s.accepting := holding_self (by exact only)
  rw [exec_release h long short source', takeRelease_matched source (by exact other) (by exact only) (by exact near)]
  refine ⟨fun ignored => ?_, fun f foreign kept station => ?_⟩
  · rw [if_neg (by rw [not_and_or]; exact ignored)]
  rw [if_pos ⟨foreign, by rw [kept, Option.map_some, station]⟩, ← hself]
  refine ⟨fun noticed walk owner => ?_, fun present before => ?_, fun present ps pe d => ?_⟩
  · rw [releaseMatched_noticed noticed, removeRecord_holding rfl _ (by exact walk) (by change s.lpu.entryOwner ≠ _; simp [owner])]
    rfl
  · have hbefore : r.reachedD = false := by
      rw [Bool.eq_false_iff, ne_eq, reachedD_iff]
      tauto
    rw [releaseMatched_present present, if_neg (by simp [hbefore]), updateRecord_holding rfl]
    rfl
  · rw [releaseMatched_present present, if_pos ((reachedD_iff r).mpr ⟨ps, pe, d⟩), endClaim, updateRecord_holding rfl]
    rfl

end Sys2Proof.Laws
end

section
/-! PROOFS. A CLAIM of another station (06 R115 to R118, R126, 02 R26). -/

namespace Sys2Proof.Laws
open Sys2Proof.Machine

/-! ### The frame and the record it meets -/

theorem exec_claim {s : State} {src dst : Node} {p : List Byte} (h : s.hears dst) (long : 10 ≤ p.length)
    (short : p.length ≤ 12) (source : src ≠ 15#4) :
    exec (.claim src dst (goodBody .claim src dst p)) s = .next (takeClaim src p s.accepting) :=
  peer_handed (kind := .claim) (act := takeClaim src p) h short long source rfl (by decide) rfl

/-- A CLAIM of another station on the only record, which its key names. -/
theorem takeClaim_matched {src : Node} {p : List Byte} {s : State} {r : Record} (source : src ≠ 0#4)
    (other : src ≠ s.loader.number) (only : s.table.records = [r])
    (near : within s.loader.config.window r.key (BitVec.ofNat 24 (fieldAt 0 3 p)) = true) :
    takeClaim src p s = claimMatched r (foreignPart src p) s := by
  unfold takeClaim
  rw [if_neg (by simp [source, other])]
  dsimp only
  rw [show s.matching (pos (fieldAt 0 3 p)) = some r from matching_one only near]

/-- A CLAIM of another station on a key that no record matches. -/
theorem takeClaim_unmatched {src : Node} {p : List Byte} {s : State} (source : src ≠ 0#4)
    (other : src ≠ s.loader.number)
    (none : ∀ q ∈ s.table.records, within s.loader.config.window q.key (BitVec.ofNat 24 (fieldAt 0 3 p)) = false) :
    takeClaim src p s = notice (pos (fieldAt 0 3 p)) (foreignPart src p) s := by
  unfold takeClaim
  rw [if_neg (by simp [source, other])]
  dsimp only
  rw [show s.matching (pos (fieldAt 0 3 p)) = .none from matchAmong_none.mpr none]

/-- A record that has taken a foreign claim. -/
def foreignTo (f : ForeignClaim) (r : Record) : Record := { r with claim := .foreign, foreign := some f }

/-! ### The dispute test (06 R126) -/

/-- A record that is not RATED and settled, or has had its test, meets no dispute test. -/
theorem disputeTest_idle {q : Record} {k : Pos} (key : q.key = k)
    (idle : q.phase ≠ .rated ∨ q.disputeSent = true ∨ q.weighing.settled = false) (u : State) :
    disputeTest k (holding q u) = holding q u := by
  unfold disputeTest
  rw [record_holding_of key]
  dsimp only
  split
  case h_1 rated _ _ =>
    rw [if_neg]
    obtain h | h | h := idle
    · exact absurd rated h
    · simp [h]
    · simp [h]
  case h_2 => rfl

/-- A record that is RATED and settled has its test once. -/
theorem disputeTest_once {q : Record} {k : Pos} {part : RatingPart} {f : ForeignClaim} (key : q.key = k)
    (rated : q.phase = .rated) (rating : q.rating = some (.rated part)) (foreign : q.foreign = some f)
    (settled : q.weighing.settled = true) (sent : q.disputeSent = false) (u : State) :
    disputeTest k (holding q u) =
      if part.image = f.image ∧ part.step ≠ f.step ∧
          u.loader.config.disputeTolerance < absDiff (q.weighing.weight.getD 0) f.weight then
        offer [disputeEntry q f part (q.weighing.weight.getD 0)] (holding { q with disputeSent := true } u)
      else holding { q with disputeSent := true } u := by
  unfold disputeTest
  rw [record_holding_of key]
  simp only [rated, rating, foreign, settled, sent, Bool.not_false, Bool.and_self, ↓reduceIte, updateRecord_holding key,
    holding_loader]

theorem absDiff_above_iff (n a b : Nat) : n < absDiff a b ↔ n < a - b ∨ n < b - a := by
  unfold absDiff
  omega

/-- One frame offered to a queue with room takes its place there (09 R178, R179). -/
theorem offer_one {s : State} (e : TxEntry) (room : s.lc.queue.length < 8) :
    offer [e] s = s.setLc { s.lc with queue := insertEntry e s.lc.queue } := by
  have hroom : s.hasRoom [e].length = true := (hasRoom_iff s 1).mpr room
  unfold offer
  rw [if_pos hroom]
  rfl

/-! ### Table 6-4 -/

theorem becomeForeign_idle {r : Record} (f : ForeignClaim)
    (idle : r.phase ≠ .rated ∨ r.disputeSent = true ∨ r.weighing.settled = false) (s : State) :
    becomeForeign r.key f (holding r s) = holding (foreignTo f r) s := by
  unfold becomeForeign
  rw [updateRecord_holding rfl]
  exact disputeTest_idle (q := foreignTo f r) rfl idle s

theorem claimMatched_debited {r : Record} {f : ForeignClaim} {s : State} (debited : r.debitedHere = true) :
    claimMatched r f s = s.updateRecord r.key (fun r => { r with conflict := true }) := by
  unfold claimMatched
  rw [if_pos debited]

theorem claimMatched_exited {r : Record} {f : ForeignClaim} {s : State} (debited : r.debitedHere = false)
    (exited : r.presence = .exited) : claimMatched r f s = s := by
  unfold claimMatched
  rw [if_neg (by simp [debited]), if_pos exited]

/-- An OPEN, ENDED or FOREIGN record whose kept claimant does not stand before this one takes the claim. -/
theorem claimMatched_takes {r : Record} {f : ForeignClaim} {s : State} (debited : r.debitedHere = false)
    (exited : r.presence ≠ .exited)
    (takes : r.claim = .opened ∨ r.claim = .ended ∨
      (r.claim = .foreign ∧ ∃ kept, r.foreign = some kept ∧ f.station ≤ kept.station)) :
    claimMatched r f s = becomeForeign r.key f s := by
  unfold claimMatched
  rw [if_neg (by simp [debited]), if_neg exited]
  obtain claim | claim | ⟨claim, kept, hkept, station⟩ := takes
  · simp only [claim]
  · simp only [claim]
  · simp only [claim, hkept, if_neg (not_lt.mpr station)]

/-- A FOREIGN record keeps a claimant of a lower number, and a claimed one one that is not upstream of it. -/
theorem claimMatched_keeps {r : Record} {f : ForeignClaim} {s : State} (debited : r.debitedHere = false)
    (exited : r.presence ≠ .exited)
    (keeps : (r.claim = .foreign ∧ ∃ kept, r.foreign = some kept ∧ kept.station < f.station) ∨
      ((r.claim = .claiming ∨ r.claim = .claimed) ∧ s.loader.config.station ≤ f.station)) : claimMatched r f s = s := by
  unfold claimMatched
  rw [if_neg (by simp [debited]), if_neg exited]
  obtain ⟨claim, kept, hkept, station⟩ | ⟨claim | claim, station⟩ := keeps
  · simp only [claim, hkept, if_pos station]
  · simp only [claim, if_neg (not_lt.mpr station)]
  · simp only [claim, if_neg (not_lt.mpr station)]

/-- A claimed record yields to an upstream claimant. -/
theorem claimMatched_yields {r : Record} {f : ForeignClaim} {s : State} (number : r.pieceNumber = none)
    (exited : r.presence ≠ .exited) (claim : r.claim = .claiming ∨ r.claim = .claimed)
    (upstream : f.station < s.loader.config.station) : claimMatched r f s = yieldTo r f s := by
  have debited : r.debitedHere = false := by
    unfold Record.debitedHere
    obtain h | h := claim <;> simp [h, number]
  unfold claimMatched
  rw [if_neg (by simp [debited]), if_neg exited]
  obtain h | h := claim <;> simp only [h, if_pos upstream]

/-- What yielding comes to when no report is due (06 R112, R117). -/
theorem yieldTo_holding {r : Record} {f : ForeignClaim} {s : State} (exited : r.presence ≠ .exited)
    (idle : r.phase ≠ .rated ∨ r.disputeSent = true ∨ r.weighing.settled = false) :
    yieldTo r f (holding r s) = holding (foreignTo f r) (releaseFunds r (dropClaim r.key s)) := by
  have hlater : becomeForeign r.key f (releaseFunds r (dropClaim r.key (holding r s))) =
      holding (foreignTo f r) (releaseFunds r (dropClaim r.key s)) :=
    becomeForeign_idle f idle (releaseFunds r (dropClaim r.key s))
  have hdue : dueReports (releaseFunds r (dropClaim r.key (holding r s))) = [] :=
    dueReports_holding exited (releaseFunds r (dropClaim r.key s))
  unfold yieldTo departing
  dsimp only
  rw [hdue, hlater, List.isEmpty_nil, if_pos rfl, ite_self]

/-- Settles O56, by the claim phase of the record that the key names, or by the room of the table. -/
theorem foreignClaimMeetsTheTable : Obligations.ForeignClaimMeetsTheTable := by
  unfold Obligations.ForeignClaimMeetsTheTable
  rintro s src dst p k f h long short source source' other rfl hf
  replace hf : foreignPart src p = f := hf.symm
  have hmatched : ∀ r, s.table.records = [r] →
      within s.loader.config.window r.key (BitVec.ofNat 24 (fieldAt 0 3 p)) = true →
      exec (.claim src dst (goodBody .claim src dst p)) s = .next (claimMatched r f (holding r s.accepting)) := by
    intro r only near
    rw [exec_claim h long short source', takeClaim_matched source (by exact other) (by exact only) (by exact near), hf,
      show holding r s.accepting = s.accepting from holding_self (by exact only)]
  refine ⟨fun r only near idle => ?_, fun r amount e only near idle claiming present number reserved upstream queue kind
    record waiting => ?_, fun r part weight only near present opened number rated rating hweight settled sent room => ?_,
    fun none => ⟨fun mode places ahead => ?_, fun mode => ?_⟩⟩
  · have hself : holding r s.accepting = s.accepting := holding_self (by exact only)
    rw [hmatched r only near]
    refine ⟨fun debited => ?_, fun debited exited => ?_, fun debited exited takes => ?_, fun present keeps debited => ?_,
      fun amount claimed present number reserved upstream queue => ?_⟩
    · rw [claimMatched_debited debited, updateRecord_holding rfl]
      rfl
    · rw [claimMatched_exited debited exited, hself]
    · rw [claimMatched_takes debited exited takes, becomeForeign_idle f idle]
      rfl
    · rw [claimMatched_keeps debited (by simp [present]) (by exact keeps), hself]
    · rw [claimMatched_yields number (by simp [present]) (.inr claimed) (by exact upstream),
        yieldTo_holding (by simp [present]) idle]
      simp [holding, foreignTo, releaseFunds, dropClaim, State.accepting, State.setLc, State.setAu, State.setTable,
        reserved, queue]
  · have hclaim : e.isClaimOf r.key = true := by simp [TxEntry.isClaimOf, kind, record, waiting]
    rw [hmatched r only near, claimMatched_yields number (by simp [present]) (.inl claiming) (by exact upstream),
      yieldTo_holding (by simp [present]) idle]
    cases hmedium : e.onMedium <;>
      simp [holding, foreignTo, releaseFunds, dropClaim, State.accepting, State.setLc, State.setAu, State.setTable,
        reserved, queue, hclaim, hmedium]
  · have hdebited : r.debitedHere = false := by simp [Record.debitedHere, opened, number]
    have htest : becomeForeign r.key f (holding r s.accepting) = _ :=
      (congrArg (disputeTest r.key) (updateRecord_holding rfl s.accepting _)).trans
        (disputeTest_once (q := foreignTo f r) (f := f) rfl rated rating rfl settled sent s.accepting)
    rw [hmatched r only near, claimMatched_takes hdebited (by simp [present]) (.inl opened), htest]
    have hentry : disputeEntry (foreignTo f r) f part ((foreignTo f r).weighing.weight.getD 0) =
        newEntry .dispute src
          (beBytes 3 r.key.toNat ++ [BitVec.ofNat 8 src.toNat] ++ beBytes 2 weight ++ [BitVec.ofNat 8 part.step]) := by
      subst hf
      simp [disputeEntry, foreignTo, foreignPart, hweight, beBytes_one]
    rw [hentry, offer_one _ (by exact room)]
    have hweighed : (foreignTo f r).weighing.weight.getD 0 = weight := by simp [foreignTo, hweight]
    rw [hweighed, if_congr (and_congr_right fun _ => and_congr_right fun _ => absDiff_above_iff _ _ _) rfl rfl]
    change Host.Outcome.next (if part.image = f.image ∧ part.step ≠ f.step ∧ (s.loader.config.disputeTolerance < _ ∨
      s.loader.config.disputeTolerance < _) then _ else _) = _
    split <;> rfl
  · have hfree : atOrPast s.lpu.linePos (noticeLimitOf s.loader.config (pos (fieldAt 0 3 p))) = false := by
      unfold atOrPast
      rw [show precedes s.lpu.linePos (noticeLimitOf s.loader.config (pos (fieldAt 0 3 p))) = true from ahead]
      rfl
    have hnotice : notice (pos (fieldAt 0 3 p)) f s.accepting =
        s.accepting.insertRecord (noticedRecord s.loader.config (pos (fieldAt 0 3 p)) f) := by
      unfold notice
      rw [if_neg (by rw [show s.accepting.running = true from running_of_mode mode]; decide), if_pos (by exact places),
        if_neg (by rw [Bool.not_eq_true]; exact hfree)]
      rfl
    rw [exec_claim h long short source', takeClaim_unmatched source (by exact other) (by exact none), hf, hnotice]
    exact ⟨_, noticedRecord s.loader.config (pos (fieldAt 0 3 p)) f, rfl, insertByKey_perm _ _ _, rfl, rfl, rfl, rfl, rfl,
      rfl, rfl, rfl, rfl, rfl⟩
  · rw [exec_claim h long short source', takeClaim_unmatched source (by exact other) (by exact none), hf, notice, if_pos]
    simp [State.running, State.accepting, mode]

end Sys2Proof.Laws
end

section
/-! PROOFS. The Accounting Unit: a completed debit, CREDIT and its completion, and the two queries (07 R143 to R148,
09 R185). -/

namespace Sys2Proof.Laws
open Sys2Proof.Machine

@[simp] theorem accepting_au (s : State) : s.accepting.au = s.au := rfl

/-- Two frames offered together take their places when the queue has room for both (09 R179). -/
theorem offer_two (a b : TxEntry) (s : State) :
    offer [a, b] s =
      s.setLc
        { s.lc with
          queue := if s.lc.queue.length ≤ 6 then insertEntry b (insertEntry a s.lc.queue) else s.lc.queue } := by
  have hroom : s.hasRoom [a, b].length = true ↔ s.lc.queue.length ≤ 6 := by
    rw [hasRoom_iff]
    simp
  unfold offer
  rw [if_congr hroom rfl rfl]
  split <;> rfl

/-! ### The completion of a debit (07 R143) -/

/-- The books after a completed debit. -/
theorem bookDebit_eq (item : DebitItem) (set : NvSet) (au : Account) :
    bookDebit item set au =
      { au.setBank au.current.other (some set) with
        current := au.current.other, write := none, committed := au.committed - item.amount,
        outstanding := au.outstanding - 1 } := by
  unfold bookDebit completeWrite
  cases au.current <;> rfl

theorem bookDebit_queue (item : DebitItem) (set : NvSet) (au : Account) : (bookDebit item set au).queue = au.queue := by
  rw [bookDebit_eq]
  cases au.current <;> rfl

theorem bookDebit_registers {item : DebitItem} {set : NvSet} {au : Account} (sound : au.faulted = false) :
    (bookDebit item set au).registers = set :=
  (registers_eq rfl rfl).trans ((completeWrite_registers set au).trans (by simp [sound]))

/-- The ring takes an entry, and drops its oldest one when it is full (06 R128). -/
theorem addToRing_eq {ring : List RingEntry} (e : RingEntry) (fits : ring.length ≤ 16) :
    addToRing e ring = (if ring.length = 16 then ring.tail else ring) ++ [e] := by
  unfold addToRing
  have hfull : Config.ringEntries ≤ ring.length ↔ ring.length = 16 := by
    change 16 ≤ ring.length ↔ _
    omega
  rw [if_congr hfull rfl rfl]
  congr 1
  split
  case isTrue full =>
    rw [full]
    exact List.drop_one
  case isFalse => rfl

/-- The record of a completed debit is numbered, and armed unless it has its outcome. -/
theorem settleDebit_holding {r q : Record} {k : Pos} {entry : RingEntry} {u : State} (key : r.key = k)
    (fits : u.cc.ring.length ≤ 16)
    (debited : q = { r with
      pieceNumber := some u.au.registers.count, claim := if r.outcome = none then .armed else .ended })
    (hentry : ringEntryOf r = entry) :
    settleDebit k (holding r u) =
      holding q
        (u.setCc { u.cc with ring := (if u.cc.ring.length = 16 then u.cc.ring.tail else u.cc.ring) ++ [entry] }) := by
  have hq : debitedRecord u.au.registers.count r = q := by
    subst debited
    unfold debitedRecord
    cases r.outcome <;> rfl
  unfold settleDebit
  rw [record_holding_of key]
  dsimp only
  rw [updateRecord_holding key, hentry]
  change (holding (debitedRecord u.au.registers.count r) u).setCc { u.cc with ring := addToRing entry u.cc.ring } = _
  rw [hq, addToRing_eq entry fits]
  rfl

theorem raiseExhausted_eq (s : State) :
    raiseExhausted s =
      s.setInhibit
        { s.inhibit with
          exhausted := s.inhibit.exhausted || decide (s.au.registers.count = 999999999) } := by
  unfold raiseExhausted
  split
  case isTrue h =>
    rw [decide_eq_true (show s.au.registers.count = 999999999 from h), Bool.or_true]
  case isFalse h =>
    rw [decide_eq_false (show ¬ s.au.registers.count = 999999999 from h), Bool.or_false]
    rfl

/-- A record that is not EXITED offers no report when its debit completes. -/
theorem offerReportOf_present {q : Record} {k : Pos} (key : q.key = k) (present : q.presence ≠ .exited) (u : State) :
    offerReportOf k (holding q u) = holding q u := by
  unfold offerReportOf
  rw [record_holding_of key]
  exact if_neg fun h => present h.1

/-- An EXITED record is reported when its debit completes, and leaves the table (02 R33). -/
theorem offerReportOf_exited {q : Record} {k : Pos} {u : State} (key : q.key = k) (exited : q.presence = .exited)
    (ready : q.reportReady = true) (room : u.lc.queue.length + 2 ≤ 8) (walk : u.rater.walk = none)
    (owner : u.lpu.entryOwner = none) :
    offerReportOf k (holding q u) =
      (u.setLc
        { u.lc with
          queue := insertEntry (newEntry .pieceReport 0#4 (reportPart2 q))
            (insertEntry (newEntry .pieceReport 0#4 (reportPart1 q)) u.lc.queue) }).setTable
        { u.table with records := [] } := by
  have hroom : (holding q u).hasRoom 2 = true := (hasRoom_iff _ 2).mpr room
  unfold offerReportOf
  rw [record_holding_of key]
  dsimp only
  rw [if_pos ⟨exited, ready, hroom⟩]
  exact removeRecord_holding (r := q) rfl
    (u.setLc
      { u.lc with
        queue := insertEntry (newEntry .pieceReport 0#4 (reportPart2 q))
          (insertEntry (newEntry .pieceReport 0#4 (reportPart1 q)) u.lc.queue) })
    walk (by simp [owner])

theorem startDebit_empty {s : State} (queue : s.au.queue = []) : startDebit s = s := by
  unfold startDebit
  rw [queue]
  cases s.au.write <;> rfl

/-- The state after the booked, numbered and ringed debit of the only record, before any report or further debit. -/
def debitDone (item : DebitItem) (set : NvSet) (entry : RingEntry) (s : State) : State :=
  ((s.setAu (bookDebit item set s.au)).setCc
    { s.cc with ring := (if s.cc.ring.length = 16 then s.cc.ring.tail else s.cc.ring) ++ [entry] }).setInhibit
    { s.inhibit with exhausted := s.inhibit.exhausted || decide (set.count = 999999999) }

theorem exec_debitWrite {s : State} {item : DebitItem} {set : NvSet} {r q : Record} {entry : RingEntry}
    (powered : s.loader.powered = true) (write : s.au.write = some (.debit item set)) (sound : s.au.faulted = false)
    (only : s.table.records = [r]) (key : r.key = item.key) (fits : s.cc.ring.length ≤ 16)
    (debited : q = { r with
      pieceNumber := some set.count, claim := if r.outcome = none then .armed else .ended })
    (hentry : ringEntryOf r = entry) :
    exec .debitWriteComplete s =
      .next (startDebit (offerReportOf item.key (holding q (debitDone item set entry s)))) := by
  have hregisters : (bookDebit item set s.au).registers = set := bookDebit_registers sound
  have hself : holding r (s.setAu (bookDebit item set s.au)) = s.setAu (bookDebit item set s.au) :=
    holding_self (by exact only)
  have hexec : exec .debitWriteComplete s =
      .next (startDebit (offerReportOf item.key (raiseExhausted
        (settleDebit item.key (s.setAu (bookDebit item set s.au)))))) := by
    change execDebitWriteComplete s = _
    unfold execDebitWriteComplete
    simp only [powered, write]
  rw [hexec, ← hself, settleDebit_holding (q := q) key (by exact fits) (by rw [State.setAu_au, hregisters]; exact debited)
    hentry, raiseExhausted_eq]
  change Host.Outcome.next (startDebit (offerReportOf item.key (State.setInhibit _
    { s.inhibit with
      exhausted := s.inhibit.exhausted || decide ((bookDebit item set s.au).registers.count = 999999999) }))) = _
  rw [hregisters]
  rfl

/-- Settles O48: the booked debit, then the report or the next debit. -/
theorem debitCompletesInItsOrder : Obligations.DebitCompletesInItsOrder := by
  unfold Obligations.DebitCompletesInItsOrder
  intro s item set r p q entry powered write sound only key _ rated fits debited hentry
  have hring : ringEntryOf r = entry := by
    rw [hentry]
    simp [ringEntryOf, ratingOf, rated]
  have hkey : q.key = item.key := by rw [debited]; exact key
  have hpresence : q.presence = r.presence := by rw [debited]
  rw [exec_debitWrite powered write sound only key fits debited hring]
  refine ⟨fun present empty => ?_, fun next rest present queue => ?_, fun exited empty room walk owner => ?_⟩
  · rw [offerReportOf_present hkey (by simp [hpresence, present]),
      startDebit_empty (by exact (bookDebit_queue item set s.au).trans empty), debitDone, bookDebit_eq]
    rfl
  · have hset : debitSet (bookDebit item set s.au) next.amount =
        { set with
          descending := set.descending - next.amount
          ascending := set.ascending + next.amount
          count := set.count + 1
          generation := (set.generation + 1) % 256 } := by
      unfold debitSet nextGeneration
      rw [bookDebit_registers sound]
    rw [offerReportOf_present hkey (by simp [hpresence, present]),
      startDebit_idle (item := next) (rest := rest) (by exact (congrArg Account.write (bookDebit_eq item set s.au)))
        (by exact (bookDebit_queue item set s.au).trans queue)]
    change Host.Outcome.next (State.setAu _
      { bookDebit item set s.au with
        queue := rest, write := some (.debit next (debitSet (bookDebit item set s.au) next.amount)) }) = _
    rw [hset, bookDebit_eq]
    rfl
  · have hready : q.reportReady = true := by rw [debited]; rfl
    rw [offerReportOf_exited hkey (hpresence.trans exited) hready (by exact room) (by exact walk) (by exact owner),
      startDebit_empty (by exact (bookDebit_queue item set s.au).trans empty), debitDone, bookDebit_eq]
    rfl

/-! ### CREDIT (07 R145, R146) -/

theorem exec_credit {s : State} {dst : Node} {p : List Byte} (h : s.hears dst) (long : 6 ≤ p.length)
    (short : p.length ≤ 12) : exec (.credit 0#4 dst (goodBody .credit 0#4 dst p)) s = .next (takeCredit p s.accepting) :=
  command_handed (kind := .credit) (act := takeCredit p) h short long (by decide) rfl

/-- The tests of CREDIT in their order. -/
theorem takeCredit_eq (p : List Byte) (s : State) :
    takeCredit p s =
      if s.au.faulted then refuse .credit .state 0 s
      else if s.au.write.isSome ∨ !s.au.queue.isEmpty then refuse .credit .busy 0 s
      else if fieldAt 4 2 p ≠ s.au.registers.nextCredit then refuse .credit .sequence s.au.registers.nextCredit s
      else if fieldAt 0 4 p = 0 ∨ s.loader.config.creditLimit < fieldAt 0 4 p ∨
          99999999 < s.au.registers.descending + fieldAt 0 4 p ∨
          999999999999 < s.au.registers.control + fieldAt 0 4 p then
        refuse .credit .range 0 s
      else s.setAu { s.au with write := some (.credit (creditSet s.au (fieldAt 0 4 p))) } := rfl

/-- A refused CREDIT. -/
theorem credit_refused {s : State} {dst : Node} {p : List Byte} {reason : RefusalReason} {detail : Nat}
    (h : s.hears dst) (long : 6 ≤ p.length) (short : p.length ≤ 12)
    (refused : takeCredit p s.accepting = refuse .credit reason detail s.accepting) :
    exec (.credit 0#4 dst (goodBody .credit 0#4 dst p)) s =
      .next (s.refusing (9#8 :: (beBytes 1 reason.code ++ beBytes 3 detail))) := by
  rw [exec_credit h long short, refused, refuse_accepting]
  rfl

/-- The completion of a credit write: the account is reported, and nothing more waits for the writer. -/
theorem exec_creditWrite {s : State} {set : NvSet} (powered : s.loader.powered = true)
    (write : s.au.write = some (.credit set)) (queue : s.au.queue = []) :
    exec .creditWriteComplete s =
      .next (offer (accountReport (completeWrite set s.au)) (s.setAu (completeWrite set s.au))) := by
  have hqueue : (completeWrite set s.au).queue = [] := by
    obtain ⟨-, -, -, hq, -⟩ := completeWrite_books set s.au
    rw [hq, queue]
  change execCreditWriteComplete s = _
  unfold execCreditWriteComplete
  simp only [powered, write, State.setAu_au]
  refine congrArg _ (startDebit_empty ?_)
  unfold accountReport
  rw [offer_two]
  exact hqueue

/-- Settles O49: the tests one after another, the set of the write, and the ACCOUNT REPORT. -/
theorem creditsAreTestedAndWritten : Obligations.CreditsAreTestedAndWritten := by
  unfold Obligations.CreditsAreTestedAndWritten
  refine ⟨?_, fun s set powered write sound queue => ?_⟩
  · rintro s dst p _ _ _ h long short rfl rfl rfl
    refine ⟨fun reason detail refused => ?_, fun sound write queue number some limit descending control => ?_⟩
    · obtain ⟨rfl, rfl, faulted⟩ | ⟨rfl, rfl, sound, busy⟩ | ⟨sound, write, queue, hrest⟩ := refused
      · refine credit_refused (reason := .state) h long short ?_
        rw [takeCredit_eq, if_pos (by exact faulted)]
      · refine credit_refused (reason := .busy) h long short ?_
        rw [takeCredit_eq, accepting_au, if_neg (by simp [sound]),
          if_pos (busy.imp (by simp [Option.isSome_iff_ne_none]) (by simp))]
      · have hidle : ¬ (s.au.write.isSome = true ∨ (!s.au.queue.isEmpty) = true) := by simp [write, queue]
        obtain ⟨rfl, rfl, number⟩ | ⟨rfl, rfl, number, range⟩ := hrest
        · refine credit_refused (reason := .sequence) h long short ?_
          rw [takeCredit_eq, accepting_au, if_neg (by simp [sound]), if_neg hidle, if_pos number]
        · refine credit_refused (reason := .range) h long short ?_
          rw [takeCredit_eq, accepting_au, if_neg (by simp [sound]), if_neg hidle, if_neg (not_not.mpr number),
            if_pos (by exact range)]
    · rw [exec_credit h long short, takeCredit_eq, accepting_au, if_neg (by simp [sound]),
        if_neg (by simp [write, queue]), if_neg (not_not.mpr number),
        if_neg (by change ¬ (_ ∨ s.loader.config.creditLimit < _ ∨ _ ∨ _); omega), number]
      rfl
  · have hregisters : (completeWrite set s.au).registers = set := by
      rw [completeWrite_registers]
      simp [sound]
    have hreserved : (completeWrite set s.au).reserved = s.au.reserved := (completeWrite_books set s.au).1
    rw [exec_creditWrite powered write queue]
    unfold accountReport accountPart1 accountPart2
    rw [hregisters, hreserved, offer_two]
    rfl

/-! ### The queries (07 R148, 09 R185) -/

/-- In OFFLINE the screen hands a STATUS QUERY of the terminal alone (09 R177). -/
theorem receive_offline {dst : Node} {p : List Byte} {act : State → State} {s : State}
    (powered : s.loader.powered = true) (idleSeen : s.lc.idleSeen = true) (addressed : dst = s.loader.number ∨ dst = 15#4)
    (short : p.length ≤ 12) (mode : s.loader.mode = some .offline) :
    receive .statusQuery 0#4 dst (goodBody .statusQuery 0#4 dst p) act s = .next (act s.accepting) := by
  have hscreen : screen .statusQuery 0#4 dst p s.accepting = .handed := by
    unfold screen
    rw [show s.accepting.loader = s.loader from rfl, if_neg (by simp [mode]), if_neg (by tauto), if_neg (by decide),
      if_pos mode, if_pos ⟨rfl, rfl⟩]
  unfold receive
  rw [if_neg (by simp [powered, idleSeen]), if_neg (by simp [arrivedGood_goodBody .statusQuery 0#4 dst short])]
  simp only [State.accepting, goodBody, Bool.false_eq_true, if_false] at hscreen ⊢
  rw [hscreen]

/-- Settles O50: the two frames of each report, offered together. -/
theorem queriesAreAnswered : Obligations.QueriesAreAnswered := by
  unfold Obligations.QueriesAreAnswered
  refine ⟨fun s dst p m h short mode => ⟨?_, ?_⟩, fun s dst p powered idleSeen addressed short mode queue => ?_⟩
  · have hexec : exec (.accountQuery 0#4 dst (goodBody .accountQuery 0#4 dst p)) s =
        .next (offer (accountReport s.au) s.accepting) :=
      command_handed (kind := .accountQuery) (act := fun s => offer (accountReport s.au) s) h short (Nat.zero_le _)
        (by decide) rfl
    rw [hexec, accountReport, offer_two]
    rfl
  · have hexec : exec (.statusQuery 0#4 dst (goodBody .statusQuery 0#4 dst p)) s =
        .next (offer (statusReport s.accepting) s.accepting) :=
      command_handed (kind := .statusQuery) (act := fun s => offer (statusReport s) s) h short (Nat.zero_le _)
        (by decide) rfl
    have hreport : statusReport s.accepting =
        [newEntry .statusReport 0#4 (statusPart1 s m), newEntry .statusReport 0#4 (statusPart2 s m)] := by
      unfold statusReport
      rw [show s.accepting.loader.mode = some m from mode]
      rfl
    rw [hexec, hreport, offer_two]
    rfl
  · have hexec : exec (.statusQuery 0#4 dst (goodBody .statusQuery 0#4 dst p)) s =
        .next (offer (statusReport s.accepting) s.accepting) :=
      receive_offline (act := fun s => offer (statusReport s) s) powered idleSeen addressed short mode
    have hcode : 32 * StationMode.offline.code + s.loader.reason.code = s.loader.reason.code := by
      simp [StationMode.code]
    have hpart1 : statusPart1 s.accepting .offline =
        [BitVec.ofNat 8 s.loader.reason.code, 0#8, 0#8] ++ beBytes 3 s.lpu.linePos.toNat ++ [0#8, 0#8] := by
      unfold statusPart1
      change beBytes 1 (32 * StationMode.offline.code + s.loader.reason.code) ++ beBytes 2 0 ++
        beBytes 3 s.lpu.linePos.toNat ++ beBytes 1 0 ++ beBytes 1 s.lc.queue.length = _
      rw [hcode, queue]
      simp [beBytes]
    have hpart2 : statusPart2 s.accepting .offline = [128#8, 0#8, 0#8, 0#8, 0#8, 0#8, 0#8] := rfl
    have hreport : statusReport s.accepting =
        [newEntry .statusReport 0#4 (statusPart1 s.accepting .offline),
          newEntry .statusReport 0#4 (statusPart2 s.accepting .offline)] := by
      unfold statusReport
      rw [show s.accepting.loader.mode = some .offline from mode]
    rw [hexec, hreport, offer_two, hpart1, hpart2, show s.accepting.lc.queue = [] from queue]
    rfl

end Sys2Proof.Laws
end

section
/-! PROOFS. The Link Controller: what a frame of another node does before a block acts, and the own attempts (09 R170 to
R183). -/

namespace Sys2Proof.Laws
open Sys2Proof.Machine

/-! ### Frames of other nodes -/

/-- Every command that brings a frame is its reception, with the act of the block that takes its kind. -/
theorem exec_frameOfCommand {c : Instr} {kind : Kind} {src dst : Node} {body : FrameBody}
    (frame : frameOfCommand c = some (kind, src, dst, body)) :
    ∃ act : State → State, ∀ s, exec c s = receive kind src dst body act s := by
  cases c with
  | accountQuery src dst body =>
    cases frame
    exact ⟨fun s => offer (accountReport s.au) s, fun _ => rfl⟩
  | statusQuery src dst body =>
    cases frame
    exact ⟨fun s => offer (statusReport s) s, fun _ => rfl⟩
  | lineReset src dst body | claim src dst body | release src dst body | pause src dst body | resume src dst body
  | job src dst body | date src dst body | dispute src dst body | credit src dst body | clearScale src dst body
  | online src dst body | tariffOpen src dst body | tariffData src dst body | tariffClose src dst body =>
    cases frame
    exact ⟨_, fun _ => rfl⟩
  | _ => cases frame

/-- The frames that no block takes (09 R176, R177, 11 R198). -/
def notTaken (kind : Kind) (src dst : Node) (p : List Byte) (s : State) : Prop :=
  s.loader.mode = none ∨ (dst ≠ s.loader.number ∧ dst ≠ 15#4) ∨ src = 15#4 ∨
    (s.loader.mode = some .offline ∧ (kind ≠ .statusQuery ∨ src ≠ 0#4)) ∨
    (kind = .lineReset ∧ (src ≠ 0#4 ∨ dst ≠ 15#4)) ∨
    (p.length < kind.payloadLength ∧ (kind.terminal = false ∨ src = 0#4))

theorem screen_ignored {kind : Kind} {src dst : Node} {p : List Byte} {s : State} (h : notTaken kind src dst p s) :
    screen kind src dst p s = .ignored := by
  unfold notTaken at h
  unfold screen
  split_ifs with noMode address source offline query terminal reset resetAll report length
  · rfl
  · rfl
  · rfl
  · obtain ⟨rfl, rfl⟩ := query
    obtain h | h | h | ⟨-, h⟩ | ⟨h, -⟩ | ⟨h, -⟩ := h
    · exact absurd h noMode
    · exact absurd h address
    · exact absurd h source
    · simp at h
    · cases h
    · cases h
  · rfl
  · rfl
  · obtain ⟨hterminal, hsource⟩ := terminal
    obtain h | h | h | ⟨h, -⟩ | ⟨h, -⟩ | ⟨-, h⟩ := h
    · exact absurd h noMode
    · exact absurd h address
    · exact absurd h source
    · exact absurd h offline
    · exact absurd h reset
    · simp [hterminal, hsource] at h
  · rfl
  · rfl
  · rfl
  · obtain h | h | h | ⟨h, -⟩ | ⟨rfl, h⟩ | ⟨h, -⟩ := h
    · exact absurd h noMode
    · exact absurd h address
    · exact absurd h source
    · exact absurd h offline
    · obtain h | h := h
      · exact absurd ⟨rfl, h⟩ terminal
      · exact absurd ⟨rfl, h⟩ resetAll
    · exact absurd h length

/-- A heard terminal kind from a station is not allowed (09 R176). -/
theorem screen_notAllowed {kind : Kind} {src dst : Node} {p : List Byte} {s : State} (h : s.hears dst)
    (terminal : kind.terminal = true) (reset : kind ≠ .lineReset) (source : src ≠ 0#4) (source' : src ≠ 15#4) :
    screen kind src dst p s = .notAllowed := by
  obtain ⟨noMode, offline⟩ := hears_mode h
  obtain ⟨-, -, -, addressed⟩ := h
  unfold screen
  rw [if_neg noMode, if_neg (by tauto), if_neg source', if_neg offline, if_pos ⟨terminal, source⟩, if_neg reset]

/-- A part that is off or has not seen the medium idle takes no frame (09 R172). -/
theorem receive_deaf {kind : Kind} {src dst : Node} {body : FrameBody} {act : State → State} {s : State}
    (deaf : s.loader.powered = false ∨ s.lc.idleSeen = false) : receive kind src dst body act s = .next s := by
  unfold receive
  rw [if_pos (by obtain h | h := deaf <;> simp [h])]

/-- A bad frame drives the reject slot (09 R170, R173). -/
theorem receive_bad {kind : Kind} {src dst : Node} {body : FrameBody} {act : State → State} {s : State}
    (powered : s.loader.powered = true) (idleSeen : s.lc.idleSeen = true)
    (bad : ¬ arrivedGood kind src dst body = true) :
    receive kind src dst body act s = .next (s.setLc { s.lc with receiver := false, drove := .reject }) := by
  unfold receive
  rw [if_neg (by simp [powered, idleSeen]), if_pos (by simpa using bad)]

/-- A good frame drives the accept slot, and another receiver's reject or the screen may end it there. -/
theorem receive_good {kind : Kind} {src dst : Node} {body : FrameBody} {act : State → State} {s : State}
    (powered : s.loader.powered = true) (idleSeen : s.lc.idleSeen = true)
    (good : arrivedGood kind src dst body = true) :
    (body.rejected = true → receive kind src dst body act s = .next s.accepting) ∧
      (body.rejected = false → screen kind src dst body.payload s.accepting = .ignored →
        receive kind src dst body act s = .next s.accepting) ∧
      (body.rejected = false → screen kind src dst body.payload s.accepting = .notAllowed →
        receive kind src dst body act s = .next (refuse kind .notAllowed src.toNat s.accepting)) := by
  unfold receive
  rw [if_neg (by simp [powered, idleSeen]), if_neg (by simp [good])]
  dsimp only
  refine ⟨fun rejected => if_pos rejected, fun rejected verdict => ?_, fun rejected verdict => ?_⟩
  · rw [if_neg (by simp [rejected]), show screen kind src dst body.payload (s.setLc _) = _ from verdict]
    rfl
  · rw [if_neg (by simp [rejected]), show screen kind src dst body.payload (s.setLc _) = _ from verdict]
    rfl

/-- Settles O51, by the tests of the reception in their order. -/
theorem deliveredFramesAreScreened : Obligations.DeliveredFramesAreScreened := by
  unfold Obligations.DeliveredFramesAreScreened
  rintro c s k src dst p e frame rfl
  obtain ⟨act, hexec⟩ := exec_frameOfCommand frame
  rw [hexec]
  refine ⟨receive_deaf, fun powered idleSeen bad => ?_, fun powered idleSeen short check rejected => ?_,
    fun powered idleSeen short body ignored => ?_, fun h short body terminal reset source source' => ?_⟩
  · refine receive_bad powered idleSeen fun good => ?_
    obtain ⟨check, short⟩ := (arrivedGood_iff k src dst e).mp good
    obtain long | differ := bad
    · omega
    · exact differ check
  · have good := (arrivedGood_iff k src dst e).mpr ⟨check, short⟩
    exact (receive_good powered idleSeen good).1 rejected
  · have good : arrivedGood k src dst e = true := by
      rw [body]
      exact arrivedGood_goodBody k src dst short
    exact (receive_good powered idleSeen good).2.1 (by rw [body]; rfl) (screen_ignored (by exact ignored))
  · have good : arrivedGood k src dst e = true := by
      rw [body]
      exact arrivedGood_goodBody k src dst short
    obtain ⟨powered, idleSeen, -, -⟩ := id h
    have hrefused := (receive_good (act := act) powered idleSeen good).2.2 (by rw [body]; rfl)
      (screen_notAllowed (by exact h) terminal reset source source')
    have hdetail : beBytes 3 src.toNat = [0#8, 0#8, BitVec.ofNat 8 src.toNat] := by
      have hsmall : src.toNat / 256 = 0 := Nat.div_eq_of_lt (lt_trans src.isLt (by decide))
      simp [beBytes, hsmall]
    rw [hrefused, refuse_accepting, hdetail, beBytes_one]
    rfl

/-! ### Attempts -/

/-- The frame on the medium, in its place. -/
theorem sending_eq {s : State} {e : TxEntry} {front back : List TxEntry} (queue : s.lc.queue = front ++ e :: back)
    (medium : e.onMedium = true) (others : ∀ x ∈ front ++ back, x.onMedium = false) : s.sending = some e := by
  have hfront : front.find? (fun e => e.onMedium) = none :=
    List.find?_eq_none.mpr fun x hx => by simp [others x (by simp [hx])]
  unfold State.sending
  rw [queue, List.find?_append, hfront, List.find?_cons_of_pos medium]
  rfl

/-- Frames that are not on the medium are as the end of an attempt leaves them. -/
theorem offMedium_self {xs : List TxEntry} (quiet : ∀ x ∈ xs, x.onMedium = false) :
    xs.map (fun e => ({ e with onMedium := false } : TxEntry)) = xs := by
  refine (List.map_congr_left fun x hx => ?_).trans (List.map_id xs)
  have hx := quiet x hx
  cases x
  cases hx
  rfl

/-- The end of an attempt changes the frame on the medium alone. -/
theorem offMedium_one {e : TxEntry} {front back : List TxEntry} (others : ∀ x ∈ front ++ back, x.onMedium = false) :
    (front ++ e :: back).map (fun e => ({ e with onMedium := false } : TxEntry)) =
      front ++ { e with onMedium := false } :: back := by
  rw [List.map_append, List.map_cons, offMedium_self fun x hx => others x (by simp [hx]),
    offMedium_self fun x hx => others x (by simp [hx])]

/-- A failure is counted for the frame on the medium alone. -/
theorem countFailure_one {e : TxEntry} {front back : List TxEntry} (n : Nat) (medium : e.onMedium = true)
    (others : ∀ x ∈ front ++ back, x.onMedium = false) :
    (front ++ e :: back).map (fun x => if x.onMedium then { x with failures := n } else x) =
      front ++ { e with failures := n } :: back := by
  have hquiet : ∀ xs : List TxEntry, (∀ x ∈ xs, x.onMedium = false) →
      xs.map (fun x => if x.onMedium then { x with failures := n } else x) = xs := fun xs quiet =>
    (List.map_congr_left fun x hx => by simp [quiet x hx]).trans (List.map_id xs)
  rw [List.map_append, List.map_cons, hquiet front fun x hx => others x (by simp [hx]),
    hquiet back fun x hx => others x (by simp [hx]), if_pos medium]

/-- The frame on the medium leaves the queue (09 R181, R182). -/
theorem takeOff_one {s : State} {e : TxEntry} (queue : s.lc.queue = [e]) (medium : e.onMedium = true) :
    takeOff s = s.setLc { s.lc with attempt := none, queue := [] } := by
  simp [takeOff, queue, medium]

/-- A failure that does not abandon the frame: the count rises, the frame keeps its place, and a count of 8 makes a HOLD
request (09 R181, R183). -/
theorem failAttempt_counts {s : State} {e : TxEntry} {front back : List TxEntry} {n : Nat}
    (queue : s.lc.queue = front ++ e :: back) (medium : e.onMedium = true)
    (others : ∀ x ∈ front ++ back, x.onMedium = false) (waiting : e.withdrawn = false)
    (count : min (e.failures + 1) 8 = n) (kept : ¬ (n = 8 ∧ e.kind ≠ .pieceReport)) :
    failAttempt e s =
      if n = 8 then
        holdRequest .link
          (s.setLc
            { s.lc with
              queue := front ++ { e with onMedium := false, failures := n } :: back, attempt := none })
      else
        s.setLc
          { s.lc with queue := front ++ { e with onMedium := false, failures := n } :: back, attempt := none } := by
  have hafter : endAttempt (s.setLc
      { s.lc with queue := s.lc.queue.map (fun x => if x.onMedium then { x with failures := n } else x) }) =
      s.setLc
        { s.lc with
          queue := front ++ { e with onMedium := false, failures := n } :: back, attempt := none } := by
    rw [queue, countFailure_one n medium others]
    unfold endAttempt
    rw [State.setLc_lc, offMedium_one others]
    rfl
  unfold failAttempt
  rw [if_neg (by simp [waiting])]
  dsimp only
  rw [count, if_neg kept, hafter]

theorem exec_attemptFailed {s : State} {e : TxEntry} (powered : s.loader.powered = true) (sending : s.sending = some e) :
    exec .attemptFailed s = .next (failAttempt e s) := by
  change execAttemptFailed s = _
  unfold execAttemptFailed
  rw [powered, sending]

theorem exec_readBackFailure {s : State} {e : TxEntry} (powered : s.loader.powered = true)
    (sending : s.sending = some e) :
    exec .readBackFailure s = .next (failAttempt e (s.setLc { s.lc with receiver := true })) := by
  change execReadBackFailure s = _
  unfold execReadBackFailure
  rw [powered, sending]

theorem exec_lostArbitration {s : State} {e : TxEntry} (powered : s.loader.powered = true)
    (sending : s.sending = some e) (waiting : e.withdrawn = false) :
    exec .lostArbitration s = .next (endAttempt (s.setLc { s.lc with receiver := true })) := by
  change execLostArbitration s = _
  unfold execLostArbitration
  rw [powered, sending]
  exact if_neg (by simp [waiting])

theorem exec_frameDelivered {s : State} {e : TxEntry} (powered : s.loader.powered = true)
    (sending : s.sending = some e) : exec .frameDelivered s = .next (deliver e s) := by
  change execFrameDelivered s = _
  unfold execFrameDelivered
  rw [powered, sending]

/-- Settles O52: the queue after each end of an attempt. -/
theorem attemptsStartAndFail : Obligations.AttemptsStartAndFail := by
  unfold Obligations.AttemptsStartAndFail
  refine ⟨fun s powered => ?_, fun s e rest started idleSeen queue quiet => ?_,
    fun s e front back powered queue medium others waiting => ?_⟩
  · exact if_pos powered
  · have hsending : s.sending = none := List.find?_eq_none.mpr fun x hx => by simp [quiet x hx]
    change execAttemptStart s = _
    unfold execAttemptStart
    rw [if_neg (by simp [started, idleSeen, hsending]), queue]
    rfl
  · have hsending := sending_eq queue medium others
    have hcount : e.failures < 7 → min (e.failures + 1) 8 = e.failures + 1 := fun few => by omega
    refine ⟨?_, fun few => ⟨?_, ?_⟩⟩
    · rw [exec_lostArbitration powered hsending waiting, endAttempt]
      change Host.Outcome.next (State.setLc _
        { s.lc with
          receiver := true, attempt := none, queue := s.lc.queue.map (fun e => { e with onMedium := false }) }) = _
      rw [queue, offMedium_one others]
      rfl
    · rw [exec_attemptFailed powered hsending,
        failAttempt_counts queue medium others waiting (hcount few) (by omega), if_neg (by omega)]
      rfl
    · rw [exec_readBackFailure powered hsending,
        failAttempt_counts (by exact queue) medium others waiting (hcount few) (by omega), if_neg (by omega)]
      rfl

/-! ### Abandonment (09 R182) -/

/-- The eighth failure of a frame that is not a PIECE REPORT abandons it. -/
theorem failAttempt_abandons {s : State} {e : TxEntry} (waiting : e.withdrawn = false) (eighth : e.failures = 7)
    (kind : e.kind ≠ .pieceReport) : failAttempt e s = abandon e s := by
  unfold failAttempt
  rw [if_neg (by simp [waiting])]
  dsimp only
  rw [eighth]
  exact if_pos ⟨rfl, kind⟩

theorem abandon_claim {e : TxEntry} {k : Pos} (kind : e.kind = .claim) (record : e.record = some k) (s : State) :
    abandon e s = departing countAbandon (abandonClaim k (takeOff s)) := by
  unfold abandon
  simp only [kind, record]

theorem abandon_other {e : TxEntry} (kind : e.kind ≠ .claim) (s : State) :
    abandon e s = departing countAbandon (takeOff s) := by
  unfold abandon
  dsimp only
  split
  case h_1 claim _ => exact absurd claim kind
  case h_2 => rfl

/-- The CLAIMING record of an abandoned CLAIM ends, and its reservation is released (06 R111). -/
theorem abandonClaim_holding {r : Record} {k : Pos} (key : r.key = k) (claiming : r.claim = .claiming) (u : State) :
    abandonClaim k (holding r u) = holding { r with claim := .ended, pass := .linkAbandoned } (releaseFunds r u) := by
  unfold abandonClaim
  rw [record_holding_of key]
  dsimp only
  rw [if_pos claiming]
  exact updateRecord_holding key (releaseFunds r u) _

/-- With no report due, what follows a departure is all that it brings. -/
theorem departing_none {f : State → State} {s : State} (none : dueReports s = []) : departing f s = f s := by
  unfold departing
  rw [none]
  rfl

/-- An abandonment below the third in a row is counted (09 R182). -/
theorem countAbandon_few {s : State} (few : s.lc.abandons ≤ 1) :
    countAbandon s = s.setLc { s.lc with abandons := s.lc.abandons + 1 } := by
  unfold countAbandon
  have hcount : min (s.lc.abandons + 1) 3 = s.lc.abandons + 1 := by omega
  dsimp only
  rw [hcount, if_neg (by omega)]

/-- The third abandonment in a row makes a HOLD request (09 R182). -/
theorem countAbandon_third {s : State} (many : 2 ≤ s.lc.abandons) :
    countAbandon s = holdRequest .link (s.setLc { s.lc with abandons := 3 }) := by
  unfold countAbandon
  have hcount : min (s.lc.abandons + 1) 3 = 3 := by omega
  dsimp only
  rw [hcount, if_pos rfl]

/-- HOLD entry of a station without records (10 R194). -/
theorem holdRequest_empty {why : HoldReason} {s : State} (mode : s.loader.mode = some .running)
    (records : s.table.records = []) (walk : s.rater.walk = none) :
    holdRequest why s =
      { s with
        loader := { s.loader with mode := some .hold, reason := .hold why }
        lpu := { s.lpu with entryOwner := none }
        ip := { s.ip with owner := none } } := by
  rw [holdRequest, if_pos (running_of_mode mode), enterHold_empty (by exact records) (by exact walk)]
  rfl

theorem holdRequest_elsewhere {why : HoldReason} {s : State} (mode : s.loader.mode ≠ some .running) :
    holdRequest why s = s := by
  unfold holdRequest
  exact if_neg (by simp [State.running, mode])

/-- Settles O53: the abandoned CLAIM, the third abandonment, and the PIECE REPORT that stays. -/
theorem eighthFailureAbandonsAFrame : Obligations.EighthFailureAbandonsAFrame := by
  unfold Obligations.EighthFailureAbandonsAFrame
  intro s e powered queue medium waiting
  have hsending : s.sending = some e := sending_eq (front := []) (back := []) queue medium (by simp)
  rw [exec_attemptFailed powered hsending]
  have hreport : ∀ n, min (e.failures + 1) 8 = n → ¬ (n = 8 ∧ e.kind ≠ .pieceReport) → failAttempt e s = _ :=
    fun n => failAttempt_counts (front := []) (back := []) queue medium (by simp) waiting
  refine ⟨fun r amount eighth kind record only claiming present reserved few => ?_,
    fun eighth notClaim notReport records walk many mode => ?_, fun eighth kind mode => ?_,
    fun eighth kind records walk mode => ?_⟩
  · have hself : holding r (s.setLc { s.lc with attempt := none, queue := [] }) =
        s.setLc { s.lc with attempt := none, queue := [] } := holding_self (by exact only)
    rw [failAttempt_abandons waiting eighth (by simp [kind]), abandon_claim kind record, takeOff_one queue medium,
      ← hself, abandonClaim_holding rfl claiming, departing_none (dueReports_holding (by simp [present]) _),
      countAbandon_few (by exact few)]
    simp [releaseFunds, holding, State.setLc, State.setAu, State.setTable, reserved]
  · rw [failAttempt_abandons waiting eighth notReport, abandon_other notClaim, takeOff_one queue medium,
      departing_none (by simp [dueReports, records]), countAbandon_third (by exact many),
      holdRequest_empty (by exact mode) (by exact records) (by exact walk)]
    rfl
  · rw [hreport 8 (by omega) (by simp [kind]), if_pos rfl, holdRequest_elsewhere (by exact mode)]
    rfl
  · rw [hreport 8 (by omega) (by simp [kind]), if_pos rfl,
      holdRequest_empty (by exact mode) (by exact records) (by exact walk)]
    rfl

/-! ### Delivery (09 R181) -/

/-- The state in which the delivery of the only frame leaves the queue. -/
def delivered (s : State) : State := s.setLc { s.lc with attempt := none, queue := [], abandons := 0 }

/-- The delivery of a CLAIM that stands makes its record CLAIMED (06 R110). -/
theorem deliver_claim {s : State} {e : TxEntry} {r : Record} (queue : s.lc.queue = [e]) (medium : e.onMedium = true)
    (only : s.table.records = [r]) (kind : e.kind = .claim) (record : e.record = some r.key)
    (waiting : e.withdrawn = false) (claiming : r.claim = .claiming) :
    deliver e s = offerReports (holding { r with claim := .claimed } (delivered s)) := by
  have hself : holding r (delivered s) = delivered s := holding_self (by exact only)
  have hupdate := updateRecord_holding (r := r) rfl (delivered s)
    (fun r => if r.claim = .claiming then { r with claim := .claimed } else r)
  rw [if_pos claiming, hself] at hupdate
  unfold deliver
  rw [takeOff_one queue medium, kind, record]
  dsimp only
  rw [if_neg (by simp [waiting])]
  exact congrArg offerReports hupdate

/-- The delivery of a withdrawn CLAIM is answered by a RELEASE (06 R112). -/
theorem deliver_withdrawn {s : State} {e : TxEntry} {k : Pos} (queue : s.lc.queue = [e]) (medium : e.onMedium = true)
    (kind : e.kind = .claim) (record : e.record = some k) (withdrawn : e.withdrawn = true) :
    deliver e s = departing (fun s => offer [releaseEntry k] s) (delivered s) := by
  unfold deliver
  rw [takeOff_one queue medium, kind, record]
  exact if_pos withdrawn

/-- The delivery of any other frame lets the table offer its reports (02 R33). -/
theorem deliver_other {s : State} {e : TxEntry} (queue : s.lc.queue = [e]) (medium : e.onMedium = true)
    (kind : e.kind ≠ .claim) : deliver e s = offerReports (delivered s) := by
  unfold deliver
  rw [takeOff_one queue medium]
  dsimp only
  split
  case h_1 claim _ => exact absurd claim kind
  case h_2 => rfl

/-- The only record, EXITED, is reported when the queue has room for both frames, and leaves the table (02 R33). -/
theorem offerReports_exited {r : Record} {u : State} (exited : r.presence = .exited) (ready : r.reportReady = true)
    (room : u.lc.queue.length + 2 ≤ 8) (walk : u.rater.walk = none) (owner : u.lpu.entryOwner = none) :
    offerReports (holding r u) =
      (u.setLc
        { u.lc with
          queue := insertEntry (newEntry .pieceReport 0#4 (reportPart2 r))
            (insertEntry (newEntry .pieceReport 0#4 (reportPart1 r)) u.lc.queue) }).setTable
        { u.table with records := [] } := by
  have hdue : dueReports (holding r u) = [r] := by simp [dueReports, exited, ready]
  have hone : offerReports (holding r u) = offerReportOf r.key (holding r u) := by
    have hroom : (holding r u).hasRoom 2 = true := (hasRoom_iff _ 2).mpr room
    unfold offerReports offerReportOf
    rw [hdue, record_holding, offerEach, if_pos hroom]
    exact (if_pos ⟨exited, ready, hroom⟩).symm
  rw [hone, offerReportOf_exited rfl exited ready room walk owner]

/-- Settles O54: what the delivery of each kind of frame brings. -/
theorem deliveryTellsTheOwner : Obligations.DeliveryTellsTheOwner := by
  unfold Obligations.DeliveryTellsTheOwner
  intro s e r powered queue medium only
  have hsending : s.sending = some e := sending_eq (front := []) (back := []) queue medium (by simp)
  have hself : holding r (delivered s) = delivered s := holding_self (by exact only)
  rw [exec_frameDelivered powered hsending]
  refine ⟨fun kind record waiting present claiming => ?_, fun k kind record withdrawn present => ?_,
    fun kind exited ended walk owner => ?_⟩
  · rw [deliver_claim queue medium only kind record waiting claiming, offerReports_holding (by simp [present])]
    rfl
  · rw [deliver_withdrawn queue medium kind record withdrawn, ← hself,
      departing_none (dueReports_holding (by simp [present]) _), hself, offer_one _ (by simp [delivered])]
    rfl
  · have hready : r.reportReady = true := by
      unfold Record.reportReady Record.debitedHere
      rw [ended]
      cases r.pieceNumber <;> rfl
    rw [deliver_other queue medium (by simp [kind]), ← hself,
      offerReports_exited exited hready (by simp [delivered]) (by exact walk) (by exact owner)]
    rfl

end Sys2Proof.Laws
end

section
/-! PROOFS. LINE RESET: what every block does, and what becomes of every record (10 R195). -/

namespace Sys2Proof.Laws
open Sys2Proof.Machine

/-! ### The link (09 R187) -/

/-- The frames that a LINE RESET leaves: PIECE REPORTs and the own ONLINE, without failures. -/
def resetFrames (q : List TxEntry) : Prop := ∀ e ∈ q, (e.kind = .pieceReport ∨ e.kind = .online) ∧ e.failures = 0

theorem clearedQueue_frames (q : List TxEntry) : resetFrames (clearedQueue q) := by
  intro e he
  obtain ⟨x, hx, rfl⟩ := List.mem_map.1 he
  obtain ⟨-, hkind⟩ := List.mem_filter.1 hx
  exact ⟨.inl (by simpa using hkind), rfl⟩

/-- The link after its reset: the cleared queue, with the own ONLINE when it has room. -/
theorem resetLink_eq (s : State) :
    ∃ q, resetLink s = s.setLc { s.lc with queue := q, attempt := none, abandons := 0 } ∧ resetFrames q ∧
      ((s.lc.queue.filter (fun e => e.kind == .pieceReport)).length < 8 → onlineEntry s.loader.config ∈ q) := by
  have hlength : (clearedQueue s.lc.queue).length = (s.lc.queue.filter (fun e => e.kind == .pieceReport)).length :=
    List.length_map _
  obtain ⟨-, hoffer⟩ | ⟨full, hoffer⟩ := offer_cases [onlineEntry s.loader.config]
    (s.setLc { s.lc with queue := clearedQueue s.lc.queue, attempt := none, abandons := 0 })
  · have hperm := enqueue_perm [onlineEntry s.loader.config]
      (s.setLc { s.lc with queue := clearedQueue s.lc.queue, attempt := none, abandons := 0 })
    refine ⟨_, hoffer, fun e he => ?_, fun _ => hperm.mem_iff.2 (by simp)⟩
    obtain hnew | hold := List.mem_append.1 (hperm.mem_iff.1 he)
    · obtain rfl := List.mem_singleton.1 hnew
      exact ⟨.inr rfl, rfl⟩
    · exact clearedQueue_frames _ e hold
  · refine ⟨_, hoffer, clearedQueue_frames _, fun room => ?_⟩
    have hfull : 8 < (clearedQueue s.lc.queue).length + 1 := full
    omega

/-! ### The jobs (05 R103) -/

/-- The job that a LINE RESET keeps: the job in force, or else the front job. -/
def keptJob (jobs : List Job) : Option Job :=
  match jobs.find? (fun j => j.inForce) with
  | some j => some j
  | none => jobs.head?

theorem keepOneJob_eq (r : Rater) :
    keepOneJob r =
      (keptJob r.jobs).elim r fun j => { r with jobs := [{ j with key := 0#24, inForce := true }], ref := 0#24 } := by
  unfold keepOneJob keptJob
  cases r.jobs.find? (fun j => j.inForce) with
  | some j => rfl
  | none => cases r.jobs.head? <;> rfl

/-- No job is kept of an empty list alone. -/
theorem keptJob_none {jobs : List Job} (h : keptJob jobs = none) : jobs = [] := by
  unfold keptJob at h
  cases hfind : jobs.find? (fun j => j.inForce) with
  | some j => simp [hfind] at h
  | none => simpa [hfind] using h

theorem keptJob_some {front back : List Job} {j : Job} (before : ∀ x ∈ front, x.inForce = false)
    (which : j.inForce = true ∨ (front = [] ∧ ∀ x ∈ back, x.inForce = false)) : keptJob (front ++ j :: back) = some j := by
  have hfront : front.find? (fun j => j.inForce) = none := List.find?_eq_none.mpr fun x hx => by simp [before x hx]
  unfold keptJob
  rw [List.find?_append, hfront]
  by_cases hforce : j.inForce = true
  · rw [List.find?_cons_of_pos hforce]
    rfl
  · obtain h | ⟨rfl, quiet⟩ := which
    · exact absurd h hforce
    · rw [List.find?_cons_of_neg hforce,
        show back.find? (fun j => j.inForce) = none from List.find?_eq_none.mpr fun x hx => by simp [quiet x hx]]
      rfl

/-- The RE after a LINE RESET: cache and limits as before, at most one job, in force at key 0. -/
theorem keepOneJob_jobs (r : Rater) :
    (keepOneJob r).cache = r.cache ∧ (keepOneJob r).limits = r.limits ∧
      (keepOneJob r).jobs = (keptJob r.jobs).toList.map fun j => { j with key := 0#24, inForce := true } := by
  rw [keepOneJob_eq]
  cases h : keptJob r.jobs with
  | some j => exact ⟨rfl, rfl, rfl⟩
  | none => exact ⟨rfl, rfl, keptJob_none h⟩

/-! ### The reports -/

/-- The state after the reports have been offered, or without that offer. -/
def maybeReported (v t : State) : Prop := t = v ∨ t = offerReports v

theorem maybeReported_keeps {P : State → Prop} {v t : State} (h : maybeReported v t)
    (sends : ∀ r s, P s → P (sendReport r s)) (hv : P v) : P t := by
  obtain rfl | rfl := h
  · exact hv
  · exact offerReports_keeps (fun r s _ => sends r s) hv

theorem maybeReported_beside {v t : State} (h : maybeReported v t) : reportBeside v t := by
  obtain rfl | rfl := h
  · exact ⟨t.lc.queue, t.table.records, t.lpu.entryOwner, t.rater.walk, rfl⟩
  · exact offerReports_beside v

/-- A record stands in the table after the offers, or its report has been queued. -/
theorem maybeReported_keepsOrReports {v t : State} (h : maybeReported v t)
    (keys : (v.table.records.map (fun r => r.key)).Nodup) {r : Record} (hr : r ∈ v.table.records) :
    t.keepsOrReports r := by
  obtain rfl | rfl := h
  · exact .inl hr
  · exact offerReports_keepsOrReports keys hr

theorem maybeReported_keeps_unready {v t : State} (h : maybeReported v t)
    (keys : (v.table.records.map (fun r => r.key)).Nodup) {r : Record} (hr : r ∈ v.table.records)
    (unready : r.reportReady = false) : r ∈ t.table.records := by
  obtain rfl | rfl := h
  · exact hr
  · exact offerReports_keeps_unready keys hr unready

theorem maybeReported_subset {v t : State} (h : maybeReported v t) {r : Record} (hr : r ∈ t.table.records) :
    r ∈ v.table.records := by
  obtain rfl | rfl := h
  · exact hr
  · exact offerReports_subset v hr

theorem sendReport_queue {P : TxEntry → Prop} {r : Record} {s : State} (report : ∀ e ∈ pieceReport r, P e)
    (h : ∀ e ∈ s.lc.queue, P e) : ∀ e ∈ (sendReport r s).lc.queue, P e := by
  intro e he
  rw [sendReport, removeRecord_eq] at he
  obtain hnew | hold := List.mem_append.1 ((enqueue_perm (pieceReport r) s).mem_iff.1 he)
  · exact report e hnew
  · exact h e hold

theorem sendReport_mem {e : TxEntry} {r : Record} {s : State} (h : e ∈ s.lc.queue) : e ∈ (sendReport r s).lc.queue := by
  rw [sendReport, removeRecord_eq]
  exact (enqueue_perm _ s).mem_iff.2 (List.mem_append_right _ h)

/-- A report leaves an entry cell without owner so. -/
theorem sendReport_owner {r : Record} {s : State} (h : s.lpu.entryOwner = none) :
    (sendReport r s).lpu.entryOwner = none := by
  rw [sendReport, removeRecord_eq]
  change (if s.lpu.entryOwner = some r.key then none else s.lpu.entryOwner) = none
  rw [h]
  rfl

/-- A report leaves a walk that fills nothing so. -/
theorem sendReport_noFill {r : Record} {s : State} (h : ∀ w, s.rater.walk = some w → w.noFill = true) :
    ∀ w, (sendReport r s).rater.walk = some w → w.noFill = true := by
  intro w hw
  rw [sendReport, removeRecord_eq] at hw
  obtain hsame | ⟨x, hx, -, hdetached⟩ := detachWalk_cases r.key (enqueue (pieceReport r) s)
  · rw [hsame] at hw
    exact h w hw
  · rw [hdetached] at hw
    cases hw
    exact h x hx

/-! ### The records (02 R40, Table 2-6) -/

/-- The records that a LINE RESET keeps, before the reports. -/
theorem mem_resetRest {s : State} {x : Record} :
    x ∈ (resetRest s).table.records ↔
      ∃ y ∈ (tableAtReset s).records, y.presence = .exited ∧ { y with beforeReset := true } = x := by
  have hperm : (resetRest s).table.records.Perm _ := sortByKey_perm 0#24 _
  rw [hperm.mem_iff, List.mem_map]
  simp only [List.mem_filter, beq_iff_eq, and_assoc]

/-- A record that Table 2-6 keeps, in RUNNING. -/
theorem resetRest_keeps {s : State} {r q : Record} (running : s.running = true) (hr : r ∈ s.table.records)
    (kept : recordAtHold r = some q) : { q with beforeReset := true } ∈ (resetRest s).table.records := by
  refine mem_resetRest.2 ⟨q, ?_, (recordAtHold_kept kept).2.1, rfl⟩
  unfold tableAtReset
  rw [if_pos running]
  exact List.mem_filterMap.2 ⟨r, hr, kept⟩

/-- An EXITED record, in every mode. -/
theorem resetRest_exited {s : State} {r : Record} (hr : r ∈ s.table.records) (exited : r.presence = .exited) :
    { r with beforeReset := true } ∈ (resetRest s).table.records := by
  by_cases hrun : s.running = true
  · exact resetRest_keeps hrun hr (by simp [recordAtHold, exited])
  · refine mem_resetRest.2 ⟨r, ?_, exited, rfl⟩
    unfold tableAtReset
    rwa [if_neg hrun]

/-- What a LINE RESET keeps was EXITED or debited before. -/
theorem resetRest_before {s : State} {x : Record} (hx : x ∈ (resetRest s).table.records) :
    x.presence = .exited ∧ x.beforeReset = true ∧
      ∃ r ∈ s.table.records, r.key = x.key ∧ (r.presence = .exited ∨ r.debitedHere = true) := by
  obtain ⟨y, hy, exited, rfl⟩ := mem_resetRest.1 hx
  refine ⟨exited, rfl, ?_⟩
  unfold tableAtReset at hy
  split at hy
  · obtain ⟨r, hr, hkept⟩ := List.mem_filterMap.1 hy
    obtain ⟨hkey, -, hwas⟩ := recordAtHold_kept hkept
    exact ⟨r, hr, hkey.symm, hwas⟩
  · exact ⟨y, hy, rfl, .inl exited⟩

/-- In a station whose funds are sound only RUNNING holds records that are not EXITED. -/
theorem running_of_present {s : State} {r : Record} (law : FundsLaw s.loader s.au s.table.records)
    (powered : s.loader.powered = true) (hr : r ∈ s.table.records) (present : r.presence = .present) :
    s.running = true ∧ (r.claim = .debitWait → r.pieceNumber = none) := by
  have hplaced := law.placed powered r hr
  simp only [fundsPlaced, Bool.and_eq_true, Bool.or_eq_true, beq_iff_eq] at hplaced
  obtain ⟨⟨-, hnumber⟩, hrun | hexited⟩ := hplaced
  · refine ⟨hrun, fun wait => ?_⟩
    simpa [Record.numberPlaced, wait] using hnumber
  · rw [present] at hexited
    cases hexited

/-- The books after a LINE RESET reserve nothing. -/
theorem resetBlocks_books {s : State} (law : FundsLaw s.loader s.au s.table.records) (service : s.inService = true)
    (powered : s.loader.powered = true) :
    (resetBlocks s).au.reserved = 0 ∧
      (resetBlocks s).au.outstanding = s.au.queue.length + debitsInWrite s.au.write := by
  have hreset := law.reset service
  have hungiven : ∀ r ∈ (resetBlocks s).table.records, givenUp r = false := by
    intro r hr
    have hplaced := hreset.placed powered r hr
    have hexited := (resetRest_before (s := s) hr).1
    by_contra hgiven
    simp [fundsPlaced, Record.claimPlaced, hgiven, hexited] at hplaced
  have hbooks := hreset.books powered
  have hqueue : (resetBlocks s).au.queue = s.au.queue ∧ (resetBlocks s).au.write = s.au.write := by
    unfold resetBlocks
    split <;> exact ⟨rfl, rfl⟩
  constructor
  · rw [hbooks.reserved]
    refine List.sum_eq_zero fun n hn => ?_
    obtain ⟨r, hr, rfl⟩ := List.mem_map.1 hn
    simp [Record.held, hungiven r hr]
  · rw [hbooks.outstanding, hqueue.1, hqueue.2, List.filter_eq_nil_iff.2 fun r hr => by simp [hungiven r hr]]
    simp

/-! ### The whole of a LINE RESET -/

theorem exec_lineReset {s : State} {p : List Byte} (h : s.hears 15#4) (short : p.length ≤ 12) :
    ∃ t, exec (.lineReset 0#4 15#4 (goodBody .lineReset 0#4 15#4 p)) s = .next t ∧
      maybeReported (resetRest (resetLink s.accepting)) t := by
  refine ⟨takeLineReset s.accepting, receive_handed (kind := .lineReset) (act := takeLineReset) h short (Nat.zero_le _)
    (by decide) (fun _ => rfl) (fun _ => rfl) rfl, ?_⟩
  rw [takeLineReset_eq]
  split
  · exact .inr rfl
  · exact .inl rfl

/-- What a LINE RESET does beside the queue, the records and the books' reservations. -/
theorem resetRest_au (s : State) :
    (resetRest s).au.registers = s.au.registers ∧ (resetRest s).au.queue = s.au.queue ∧
      (resetRest s).au.write = s.au.write ∧ (resetRest s).au.committed = s.au.committed := by
  have hau : (resetRest s).au = if s.running then releasedAu s else s.au := rfl
  rw [hau]
  split
  · exact ⟨registers_eq rfl rfl, rfl, rfl, rfl⟩
  · exact ⟨rfl, rfl, rfl, rfl⟩

theorem resetRest_rater (s : State) :
    (resetRest s).rater.cache = s.rater.cache ∧ (resetRest s).rater.limits = s.rater.limits ∧
      (resetRest s).rater.jobs = ((keptJob s.rater.jobs).toList.map fun j => { j with key := 0#24, inForce := true }) ∧
      ∀ w, (resetRest s).rater.walk = some w → w.noFill = true := by
  have hwalk : ∀ r : Rater, ∀ w, (resetRater r).walk = some w → w.noFill = true := by
    intro r w hw
    obtain ⟨x, -, rfl⟩ := Option.map_eq_some_iff.1 (show r.walk.map _ = some w from hw)
    rfl
  refine ⟨?_, ?_, ?_, hwalk _⟩
  all_goals
    unfold resetRest
    split
  · exact (keepOneJob_jobs _).1
  · exact (keepOneJob_jobs _).1
  · exact (keepOneJob_jobs _).2.1
  · exact (keepOneJob_jobs _).2.1
  · exact (keepOneJob_jobs _).2.2
  · exact (keepOneJob_jobs _).2.2

/-- The records of a state with sound funds after a LINE RESET (02 R40, Table 2-6). -/
theorem resetRest_records {u t : State} (reported : maybeReported (resetRest u) t) (funds : u.fundsSound = true)
    (powered : u.loader.powered = true) (service : u.inService = true) {r : Record} (hr : r ∈ u.table.records) :
    (r.presence = .exited → t.keepsOrReports { r with beforeReset := true }) ∧
      (r.presence = .present → r.claim = .debitWait →
        { r with
          presence := .exited, outcome := some (r.outcome.getD .spoiled)
          pass := if r.outcome = none then .hold else r.pass, beforeReset := true } ∈ t.table.records) ∧
      (r.presence = .present → (r.claim = .armed ∨ r.claim = .printing) → r.outcome = none →
        t.keepsOrReports
          { r with
            presence := .exited, claim := .ended, outcome := some .spoiled, pass := .hold, beforeReset := true }) ∧
      (r.presence = .present → r.claim = .ended → r.pieceNumber ≠ none →
        t.keepsOrReports { r with presence := .exited, beforeReset := true }) := by
  have law := (fundsSound_iff u).1 funds
  have keys : ((resetRest u).table.records.map (fun r => r.key)).Nodup := (law.reset service).keys
  refine ⟨fun exited => maybeReported_keepsOrReports reported keys (resetRest_exited hr exited),
    fun present wait => ?_, fun present claim outcome => ?_, fun present ended number => ?_⟩
  · obtain ⟨running, number⟩ := running_of_present law powered hr present
    have hkept : recordAtHold r = some { r with
        presence := .exited, outcome := some (r.outcome.getD .spoiled)
        pass := if r.outcome = none then .hold else r.pass } := by
      cases outcome : r.outcome <;> simp [recordAtHold, present, wait, outcome]
    exact maybeReported_keeps_unready reported keys (resetRest_keeps running hr hkept)
      (by simp [Record.reportReady, Record.debitedHere, wait, number wait])
  · obtain ⟨running, -⟩ := running_of_present law powered hr present
    exact maybeReported_keepsOrReports reported keys
      (resetRest_keeps (q := { r with presence := .exited, claim := .ended, outcome := some .spoiled, pass := .hold })
        running hr (by obtain h | h := claim <;> simp [recordAtHold, present, h, outcome]))
  · obtain ⟨running, -⟩ := running_of_present law powered hr present
    exact maybeReported_keepsOrReports reported keys
      (resetRest_keeps (q := { r with presence := .exited }) running hr
        (by simp [recordAtHold, present, ended, Record.debitedHere, Option.isSome_iff_ne_none.2 number]))

/-- Settles O55: every block after the reset, and the records by Table 2-6. -/
theorem lineResetStartsTheStation : Obligations.LineResetStartsTheStation := by
  unfold Obligations.LineResetStartsTheStation
  intro s p h short
  obtain ⟨t, hexec, hreported⟩ := exec_lineReset h short
  obtain ⟨q, hlink, hframes, honline⟩ := resetLink_eq s.accepting
  obtain ⟨powered, -, service, -⟩ := h
  rw [hlink] at hreported
  have hrun : ∀ mode : s.loader.mode = some .running,
      (s.accepting.setLc { s.accepting.lc with queue := q, attempt := none, abandons := 0 }).running = true :=
    fun mode => running_of_mode mode
  obtain ⟨q', rs, o, w, hbeside⟩ := maybeReported_beside hreported
  have rest {α : Type} (f : State → α) := congrArg f hbeside
  obtain ⟨hcache, hlimits, hjobs, hwalk⟩ :=
    resetRest_rater (s.accepting.setLc { s.accepting.lc with queue := q, attempt := none, abandons := 0 })
  obtain ⟨hregisters, hqueue, hwrite, hcommitted⟩ :=
    resetRest_au (s.accepting.setLc { s.accepting.lc with queue := q, attempt := none, abandons := 0 })
  have htjobs : t.rater.jobs = (keptJob s.rater.jobs).toList.map fun j => { j with key := 0#24, inForce := true } :=
    (rest (·.rater.jobs)).trans hjobs
  have hqueueFrames : resetFrames t.lc.queue := maybeReported_keeps (P := fun u => resetFrames u.lc.queue) hreported
    (fun r s hs => sendReport_queue (fun e he => by
      obtain rfl | rfl : e = newEntry .pieceReport 0#4 (reportPart1 r) ∨ e = newEntry .pieceReport 0#4 (reportPart2 r) := by
        simpa [pieceReport] using he
      · exact ⟨.inl rfl, rfl⟩
      · exact ⟨.inl rfl, rfl⟩) hs) hframes
  refine ⟨t, hexec, rest (·.loader),
    ⟨rest (·.lpu.linePos), rest (·.lpu.synced), rest (·.lpu.reversal),
      maybeReported_keeps (P := fun u => u.lpu.entryOwner = none) hreported (fun _ _ hs => sendReport_owner hs) rfl,
      rest (·.lpu.clearance), rest (·.lpu.tally), rest (·.lpu.speed), rest (·.lpu.entryRun), rest (·.lpu.exitRun),
      rest (·.lpu.entryBlocked), rest (·.lpu.exitBlocked)⟩,
    ⟨rest (·.table.horizon), fun r hr => ?_⟩, rest (·.wu),
    ⟨rest (·.inhibit.layout), rest (·.inhibit.paused), rest (·.inhibit.blind), rest (·.inhibit)⟩,
    ⟨(rest (·.rater.cache)).trans hcache, (rest (·.rater.limits)).trans hlimits, ?_, ?_,
      maybeReported_keeps (P := fun u => ∀ w, u.rater.walk = some w → w.noFill = true) hreported
        (fun _ _ hs => sendReport_noFill hs) hwalk⟩,
    ⟨rest (·.cc.peers), rest (·.cc.ring), rest (·.lc.attempt), rest (·.lc.abandons)⟩, hqueueFrames, fun room => ?_,
    ⟨?_, (rest (·.au.queue)).trans hqueue, (rest (·.au.write)).trans hwrite,
      (rest (·.au.committed)).trans hcommitted, rest (·.tariff)⟩, fun mode => (rest (·.ip.owner)).trans ?_,
    ⟨fun none => ?_, fun front j back jobs before which => ?_⟩, fun funds => ⟨?_, fun r hr => ?_, fun r hr => ?_⟩⟩
  · obtain ⟨exited, before, -⟩ := resetRest_before (maybeReported_subset hreported hr)
    exact ⟨exited, before⟩
  · rw [htjobs, List.length_map]
    cases keptJob s.rater.jobs <;> simp
  · intro j hj
    rw [htjobs] at hj
    obtain ⟨x, -, rfl⟩ := List.mem_map.1 hj
    exact ⟨rfl, rfl⟩
  · exact maybeReported_keeps (P := fun u => onlineEntry s.loader.config ∈ u.lc.queue) hreported
      (fun _ _ hs => sendReport_mem hs) (honline room)
  · exact (congrArg Account.registers (rest (·.au))).trans hregisters
  · change Printer.owner (if _ then _ else _) = none
    rw [if_pos (hrun mode)]
  · rw [htjobs, none]
    rfl
  · rw [htjobs, jobs, keptJob_some before which]
    rfl
  · have hbooks := resetBlocks_books (s := s.accepting.setLc
      { s.accepting.lc with queue := q, attempt := none, abandons := 0 }) ((fundsSound_iff s).1 funds) service powered
    exact ⟨(rest (·.au.reserved)).trans hbooks.1, (rest (·.au.outstanding)).trans hbooks.2⟩
  · exact resetRest_records hreported funds powered service hr
  · obtain ⟨-, -, x, hx, hkey, hwas⟩ := resetRest_before (maybeReported_subset hreported hr)
    exact ⟨x, hx, hkey, hwas⟩

end Sys2Proof.Laws
end

section
/-! PROOFS. Sightings: the job that a key takes, the record created, and what the table makes of the others (01 R4, 02 R21 to
R28, 05 R82). -/

namespace Sys2Proof.Laws
open Sys2Proof.Machine

/-! ### The job that a key takes (05 R82) -/

theorem appliesTo_iff (j : Job) (k : Pos) : j.appliesTo k = true ↔ precedes j.key k = true ∨ j.key = k := by
  simp [Job.appliesTo]

/-- The candidates end with the jobs behind the last one in force. -/
theorem candidateJobs_concat (front tail : List Job) (pending : ∀ x ∈ tail, x.inForce = false) :
    ∃ some, candidateJobs (front ++ tail) = some ++ tail := by
  induction front with
  | nil =>
    refine ⟨[], ?_⟩
    unfold candidateJobs
    rw [List.nil_append, if_neg (by simpa using pending)]
  | cons x xs ih =>
    unfold candidateJobs
    by_cases hx : x.inForce = true
    · exact ⟨xs, by simp [hx]⟩
    · obtain ⟨some, hsome⟩ := ih
      by_cases hany : (xs ++ tail).any (fun j => j.inForce) = true
      · refine ⟨some, ?_⟩
        rw [candidateJobs, if_pos hany] at hsome
        rw [List.cons_append, if_pos (by rw [List.any_cons, hany, Bool.or_true]),
          List.dropWhile_cons_of_pos (by simp [hx]), hsome]
      · refine ⟨x :: xs, ?_⟩
        rw [List.cons_append, if_neg (by rw [List.any_cons, Bool.or_eq_true]; exact not_or_intro hx hany)]

/-- The last pending job that applies is taken. -/
theorem jobTaken_pending {front back : List Job} {j : Job} {k : Pos} (pending : ∀ x ∈ j :: back, x.inForce = false)
    (applies : j.appliesTo k = true) (last : ∀ x ∈ back, ¬ x.appliesTo k = true) :
    jobTaken (front ++ j :: back) k = some j := by
  obtain ⟨some, hsome⟩ := candidateJobs_concat front (j :: back) pending
  have hback : (j :: back).filter (fun j => j.appliesTo k) = [j] := by
    rw [List.filter_cons, if_pos applies, List.filter_eq_nil_iff.2 last]
  unfold jobTaken
  rw [hsome, List.filter_append, hback, List.getLast?_concat]

/-- With no pending job that applies behind it, the job in force is taken again. -/
theorem jobTaken_inForce {front back : List Job} {j : Job} {k : Pos} (first : ∀ x ∈ front, x.inForce = false)
    (inForce : j.inForce = true) (none : ∀ x ∈ back, ¬ x.appliesTo k = true) :
    jobTaken (front ++ j :: back) k = some j := by
  have hdrop : (front ++ j :: back).dropWhile (fun j => !j.inForce) = j :: back := by
    rw [List.dropWhile_append_of_pos (fun x hx => by simp [first x hx]), List.dropWhile_cons_of_neg (by simp [inForce])]
  have hcandidates : candidateJobs (front ++ j :: back) = back := by
    unfold candidateJobs
    rw [if_pos (by simp [inForce]), hdrop]
    rfl
  have hfind : front.find? (fun j => j.inForce) = .none := List.find?_eq_none.2 fun x hx => by simp [first x hx]
  unfold jobTaken
  rw [hcandidates, List.filter_eq_nil_iff.2 none, List.find?_append, hfind, List.find?_cons_of_pos inForce]
  rfl

/-- With no job in force and none that applies, no job is taken. -/
theorem jobTaken_none {jobs : List Job} {k : Pos} (none : ∀ x ∈ jobs, x.inForce = false ∧ ¬ x.appliesTo k = true) :
    jobTaken jobs k = .none := by
  have hcandidates : candidateJobs jobs = jobs := by
    unfold candidateJobs
    rw [if_neg (by simpa using fun x hx => (none x hx).1)]
  unfold jobTaken
  rw [hcandidates, List.filter_eq_nil_iff.2 fun x hx => (none x hx).2]
  exact List.find?_eq_none.2 fun x hx => by simp [(none x hx).1]

/-- A list without a pending job that is taken stays as it was. -/
theorem selectJob_keeps {r : Rater} {k : Pos} (taken : ∀ j, jobTaken r.jobs k = some j → j.inForce = true) :
    selectJob k r = r := by
  unfold selectJob
  split
  case h_1 => rfl
  case h_2 j hj => exact if_pos (taken j hj)

/-- A pending job that is taken comes into force, and the jobs before it are discarded. -/
theorem selectJob_takes {r : Rater} {k : Pos} {front back : List Job} {j : Job} (jobs : r.jobs = front ++ j :: back)
    (keys : (r.jobs.map (fun x => x.key)).Nodup) (taken : jobTaken r.jobs k = some j) (pending : j.inForce = false) :
    selectJob k r = { r with jobs := sortJobs j.key ({ j with inForce := true } :: back), ref := j.key } := by
  have hdrop : r.jobs.dropWhile (fun x => !(x.key == j.key)) = j :: back := by
    rw [jobs, List.dropWhile_append_of_pos, List.dropWhile_cons_of_neg (by simp)]
    intro x hx
    rw [jobs, List.map_append, List.nodup_append] at keys
    have hdiffer : x.key ≠ j.key := keys.2.2 _ (List.mem_map_of_mem hx) _ (by simp)
    simp [hdiffer]
  unfold selectJob
  rw [taken]
  dsimp only
  rw [if_neg (by simp [pending]), hdrop]
  rfl

/-! ### Sightings -/

/-- The entry cell blocked at a sighting, before the table is asked (01 R12). -/
def sighted (s : State) : State :=
  (s.setPins { s.pins with cellEn := true }).setLpu { s.lpu with entryBlocked := true, entryRun := 0, entryOwner := none }

/-- A RUNNING, synchronised station hands a sighting to the table (01 R4). -/
theorem exec_sighting {s u : State} {k : Pos} {owner : Option Pos} (powered : s.loader.powered = true)
    (mode : s.loader.mode = some .running) (synced : s.lpu.synced = true) (clear : s.lpu.entryBlocked = false)
    (key : k = s.lpu.linePos - BitVec.ofNat 24 s.loader.config.offset)
    (settles : settleSighting k s.lpu.linePos (sighted s) = (owner, u)) :
    exec .sighting s = .next (u.setLpu { u.lpu with entryOwner := owner }) := by
  have hexec : exec .sighting s = .next
      ((settleSighting k s.lpu.linePos (sighted s)).2.setLpu
        { (settleSighting k s.lpu.linePos (sighted s)).2.lpu with
          entryOwner := (settleSighting k s.lpu.linePos (sighted s)).1 }) := by
    subst key
    change execSighting s = _
    unfold execSighting
    dsimp only
    rw [if_neg (by simp [started_of_mode powered mode, clear])]
    have hhanded : ((sighted s).running && (sighted s).lpu.synced) = true :=
      Bool.and_eq_true_iff.2 ⟨running_of_mode mode, synced⟩
    exact if_pos hhanded
  rw [hexec, settles]

/-- A key that no record matches. -/
theorem matchAmong_filter_none {w : Nat} {k : Pos} {rs : List Record} (p : Record → Bool)
    (none : ∀ q ∈ rs, within w q.key k = false) : matchAmong w k (rs.filter p) = .none :=
  matchAmong_none.mpr fun q hq => none q (List.mem_of_mem_filter hq)

theorem matchAmong_one {w : Nat} {k : Pos} {r : Record} (near : within w r.key k = true) : matchAmong w k [r] = some r := by
  simp [matchAmong, near]

/-- A sighting that no record matches, with a free place (02 R24). -/
theorem sighting_creates {s : State} {k : Pos} {rater : Rater} {taken : Option Job} (powered : s.loader.powered = true)
    (mode : s.loader.mode = some .running) (synced : s.lpu.synced = true) (clear : s.lpu.entryBlocked = false)
    (key : k = s.lpu.linePos - BitVec.ofNat 24 s.loader.config.offset) (room : s.table.records.length < 16)
    (none : ∀ q ∈ s.table.records, within s.loader.config.window q.key k = false)
    (selects : selectJob k s.rater = rater) (takes : jobTaken s.rater.jobs k = taken) :
    ∃ t, exec .sighting s = .next t ∧
      t.table.records.Perm (giveJob taken (sightedFrom s.lpu.linePos (newRecord k)) :: s.table.records) ∧
      t =
        { s with
          pins := { s.pins with cellEn := true }
          lpu := { s.lpu with entryBlocked := true, entryRun := 0, entryOwner := some k }
          table := { s.table with records := t.table.records }
          rater := rater } := by
  have hsettles : settleSighting k s.lpu.linePos (sighted s) =
      (some k, ((sighted s).setRater rater).insertRecord (giveJob taken (sightedFrom s.lpu.linePos (newRecord k)))) := by
    unfold settleSighting
    dsimp only
    rw [show (sighted s).table = s.table from rfl, show (sighted s).loader = s.loader from rfl,
      matchAmong_filter_none _ none]
    dsimp only
    rw [matchAmong_filter_none _ none]
    dsimp only
    rw [if_pos (by exact room), consultJobs, show (sighted s).rater = s.rater from rfl, selects, takes]
  exact ⟨_, exec_sighting powered mode synced clear key hsettles, insertByKey_perm _ _ _, rfl⟩

/-- Settles O23, by the job that the key takes. -/
theorem sightingCreatesARecord : Obligations.SightingCreatesARecord := by
  unfold Obligations.SightingCreatesARecord
  refine ⟨fun s k powered mode synced clear key room none jobs => ?_,
    fun s k applies powered mode synced clear key room none happlies => ⟨fun front j back jobs keys pending applied last => ?_,
      fun front j back jobs first inForce last => ?_, fun quiet => ?_⟩⟩
  · have htaken : ∀ j, jobTaken s.rater.jobs k = some j → s.rater.jobs = [j] ∧ j.inForce = true := by
      obtain empty | ⟨x, one, inForce⟩ := jobs
      · rw [empty]
        intro j hj
        cases hj
      · have hx : jobTaken s.rater.jobs k = some x := by
          rw [one]
          exact jobTaken_inForce (front := []) (by simp) inForce (by simp)
        rw [hx]
        rintro j ⟨⟩
        exact ⟨one, inForce⟩
    obtain ⟨t, hexec, hperm, ht⟩ := sighting_creates powered mode synced clear key room none
      (selectJob_keeps fun j hj => (htaken j hj).2) rfl
    refine ⟨t, _, hexec, hperm, ht, ?_⟩
    obtain empty | ⟨x, one, inForce⟩ := jobs
    · have hnone : jobTaken s.rater.jobs k = .none := by
        rw [empty]
        rfl
      rw [hnone]
      exact ⟨rfl, rfl, rfl, rfl, rfl, rfl, rfl, rfl, rfl, rfl, rfl, rfl, rfl, rfl, rfl, rfl, rfl, rfl, rfl, rfl, rfl, rfl,
        rfl, rfl, rfl, rfl, fun _ => ⟨rfl, rfl⟩, fun j hj => by rw [empty] at hj; cases hj⟩
    · have hx : jobTaken s.rater.jobs k = some x := by
        rw [one]
        exact jobTaken_inForce (front := []) (by simp) inForce (by simp)
      rw [hx]
      refine ⟨rfl, rfl, rfl, rfl, rfl, rfl, rfl, rfl, rfl, rfl, rfl, rfl, rfl, rfl, rfl, rfl, rfl, rfl, rfl, rfl, rfl, rfl,
        rfl, rfl, rfl, rfl, fun empty => absurd (one.symm.trans empty) (List.cons_ne_nil _ _), fun j hj => ?_⟩
      rw [one] at hj
      cases hj
      exact ⟨rfl, rfl⟩
  · have htaken : jobTaken s.rater.jobs k = some j := by
      rw [jobs]
      exact jobTaken_pending pending ((appliesTo_iff j k).mpr ((happlies j).mp applied))
        fun x hx h => last x hx ((happlies x).mpr ((appliesTo_iff x k).mp h))
    obtain ⟨t, hexec, hperm, ht⟩ := sighting_creates powered mode synced clear key room none
      (selectJob_takes jobs keys htaken (pending j (by simp))) htaken
    have hjobs : t.rater.jobs = sortJobs j.key ({ j with inForce := true } :: back) := by rw [ht]
    refine ⟨t, _, hexec, hperm, ?_, rfl, rfl, rfl, rfl, ?_, ?_⟩
    · rw [hjobs]
      exact ht
    · rw [hjobs]
      exact sortJobs_perm _ _
    · rw [hjobs]
      exact sortJobs_sorted _ _
  · have htaken : jobTaken s.rater.jobs k = some j := by
      rw [jobs]
      exact jobTaken_inForce first inForce fun x hx h => last x hx ((happlies x).mpr ((appliesTo_iff x k).mp h))
    obtain ⟨t, hexec, hperm, ht⟩ := sighting_creates powered mode synced clear key room none
      (selectJob_keeps (k := k) fun x hx => by rw [htaken] at hx; cases hx; exact inForce) htaken
    exact ⟨t, _, hexec, hperm, ht, rfl, rfl, rfl, rfl⟩
  · have htaken : jobTaken s.rater.jobs k = .none := jobTaken_none fun x hx =>
      ⟨(quiet x hx).1, fun h => (quiet x hx).2 ((happlies x).mpr ((appliesTo_iff x k).mp h))⟩
    obtain ⟨t, hexec, hperm, ht⟩ := sighting_creates powered mode synced clear key room none
      (selectJob_keeps (k := k) fun x hx => by rw [htaken] at hx; cases hx) htaken
    exact ⟨t, _, hexec, hperm, ht, rfl, rfl, rfl, rfl⟩

/-! ### The other sightings -/

/-- A key offered to a horizon that is not held, or that it follows, moves it; the clearance lies ahead (02 R28). -/
theorem offerHorizon_moves {k : Pos} {s : State}
    (moves : s.table.horizon = none ∨ ∃ h, s.table.horizon = some h ∧ precedes h k = true)
    (ahead : precedes s.lpu.linePos (k + pos (s.loader.config.offset + s.loader.config.x + 4096)) = true) :
    offerHorizon k s =
      { s with
        lpu := { s.lpu with clearance := some (k + pos (s.loader.config.offset + s.loader.config.x + 4096)) }
        table := { s.table with horizon := some k }
        inhibit := { s.inhibit with blind := true } } := by
  unfold offerHorizon
  dsimp only
  obtain none | ⟨h, held, follows⟩ := moves
  · rw [show (s.setInhibit { s.inhibit with blind := true }).table.horizon = .none from none]
    dsimp only
    rw [if_pos rfl, if_neg (by simpa [atOrPast] using ahead)]
    rfl
  · rw [show (s.setInhibit { s.inhibit with blind := true }).table.horizon = some h from held]
    dsimp only
    rw [if_pos follows, if_neg (by simpa [atOrPast] using ahead)]
    rfl

/-- A key that does not follow the held horizon leaves it (02 R28). -/
theorem offerHorizon_keeps {k h : Pos} {s : State} (held : s.table.horizon = some h) (before : precedes h k = false) :
    offerHorizon k s = s.setInhibit { s.inhibit with blind := true } := by
  unfold offerHorizon
  dsimp only
  rw [show (s.setInhibit { s.inhibit with blind := true }).table.horizon = some h from held]
  dsimp only
  rw [if_neg (by simp [before])]

/-- Of two positions at most one precedes the other (01 R2). -/
theorem precedes_asymm {a b : Pos} (h : precedes a b = true ∨ a = b) : precedes b a = false := by
  unfold precedes at *
  rw [Bool.and_eq_true, decide_eq_true_iff, decide_eq_true_iff] at h
  rw [Bool.and_eq_false_iff, decide_eq_false_iff_not, decide_eq_false_iff_not]
  obtain h | rfl := h
  · bv_omega
  · left
    simp

/-- The clearance of a horizon set by a sighting lies ahead of the line position (01 R6). -/
theorem clearance_ahead {p k : Pos} {offset x : Nat} (key : k = p - BitVec.ofNat 24 offset) (bound : x ≤ 4095) :
    precedes p (k + pos (offset + x + 4096)) = true := by
  have hsum : k + pos (offset + x + 4096) = p + BitVec.ofNat 24 (x + 4096) := by
    subst key
    unfold pos
    rw [Nat.add_assoc, BitVec.ofNat_add, ← BitVec.add_assoc, BitVec.sub_add_cancel]
  have hdiff : p + BitVec.ofNat 24 (x + 4096) - p = BitVec.ofNat 24 (x + 4096) := by
    rw [BitVec.add_comm, BitVec.add_sub_cancel]
  unfold precedes
  rw [hsum, hdiff, BitVec.toNat_ofNat, Nat.mod_eq_of_lt (by omega)]
  simp
  omega

/-- A sighting that a full table or a tailgate leaves untracked comes to the horizon (02 R22, R25). -/
theorem settleSighting_full {k p : Pos} {s : State} (full : 16 ≤ s.table.records.length)
    (none : ∀ q ∈ s.table.records, within s.loader.config.window q.key k = false) :
    settleSighting k p s = (.none, offerHorizon k s) := by
  unfold settleSighting
  dsimp only
  rw [matchAmong_filter_none _ none]
  dsimp only
  rw [matchAmong_filter_none _ none]
  dsimp only
  rw [if_neg (not_lt.mpr (by exact full))]

theorem settleSighting_matched {k p : Pos} {s : State} {r : Record} (only : s.table.records = [r])
    (noticed : r.presence ≠ .noticed) (near : within s.loader.config.window r.key k = true) :
    settleSighting k p s = (none, tailgateSighting k r s) := by
  have hfilter : s.table.records.filter (fun r => r.presence != .noticed) = [r] := by simp [only, noticed]
  unfold settleSighting
  dsimp only
  rw [hfilter, matchAmong_one near]

theorem settleSighting_noticed {k p : Pos} {s : State} {r : Record} (only : s.table.records = [r])
    (noticed : r.presence = .noticed) (near : within s.loader.config.window r.key k = true) (jobs : s.rater.jobs = []) :
    settleSighting k p s = (some r.key, holding (sightedFrom p r) s) := by
  have hfilter : s.table.records.filter (fun r => r.presence != .noticed) = [] := by simp [only, noticed]
  have hfilter' : s.table.records.filter (fun r => r.presence == .noticed) = [r] := by simp [only, noticed]
  have htaken : jobTaken s.rater.jobs k = none := by
    rw [jobs]
    rfl
  have hconsult : consultJobs k s = s := by
    rw [consultJobs, selectJob_keeps fun j hj => by rw [htaken] at hj; cases hj]
    rfl
  unfold settleSighting
  dsimp only
  rw [hfilter, hfilter', matchAmong_one near, htaken, hconsult]
  refine congrArg (Prod.mk _) ?_
  rw [← holding_self only]
  exact updateRecord_holding rfl s _

/-- A PRESENT record on which another piece has closed up (02 R23). -/
def tailgated (r : Record) : Record := { r with phase := .faulted, tailgate := true, pass := .tailgate, waiting := false }

theorem tailgateSighting_present {k : Pos} {s : State} {r : Record} (present : r.presence = .present)
    (walk : s.rater.walk = none) :
    tailgateSighting k r (holding r s) =
      offerHorizon k (holding (tailgated r) s) := by
  have hdetach : ∀ u : State, u.rater.walk = none → detachWalk r.key u = u := fun u hu => by
    unfold detachWalk
    rw [hu]
  unfold tailgateSighting
  dsimp only
  rw [if_pos present, updateRecord_holding rfl, hdetach _ (by exact walk)]
  rfl

theorem tailgateSighting_exited {k : Pos} {s : State} {r : Record} (exited : r.presence = .exited) :
    tailgateSighting k r s = offerHorizon k s := by
  unfold tailgateSighting
  dsimp only
  rw [if_neg (by simp [exited])]

/-- Settles O24: what each of the other sightings leaves. -/
theorem sightingMeetsTheTable : Obligations.SightingMeetsTheTable := by
  unfold Obligations.SightingMeetsTheTable
  refine ⟨⟨fun s m powered mode idle clear => ?_, fun s k powered mode synced clear key bound horizon walk =>
    ⟨fun r only present near => ?_, fun full none => ?_⟩, fun s r powered mode synced clear only noticed jobs near => ?_⟩,
    fun s k h powered mode synced clear key bound held untracked => ?_⟩
  · change execSighting s = _
    unfold execSighting
    dsimp only
    rw [if_neg (by simp [started_of_mode powered mode, clear]), if_neg]
    · rfl
    · change ¬ (s.running && s.lpu.synced) = true
      rw [running_eq_decide mode]
      obtain h | h := idle <;> simp [h]
  · have hself : holding r (sighted s) = sighted s := holding_self (by exact only)
    rw [exec_sighting powered mode synced clear key
      (settleSighting_matched (by exact only) (by simp [present]) (by exact near)), ← hself,
      tailgateSighting_present present (by exact walk),
      offerHorizon_moves (s := holding (tailgated r) (sighted s)) (.inl (by exact horizon)) (by exact clearance_ahead key bound)]
    rfl
  · rw [exec_sighting powered mode synced clear key (settleSighting_full (by exact full) (by exact none)),
      offerHorizon_moves (s := sighted s) (.inl (by exact horizon)) (by exact clearance_ahead key bound)]
    rfl
  · exact ⟨_, sightedFrom s.lpu.linePos r, exec_sighting powered mode synced clear rfl
      (settleSighting_noticed (by exact only) noticed (by exact near) (by exact jobs)), rfl, rfl, rfl, rfl, rfl, rfl, rfl,
      rfl, rfl, rfl, rfl, rfl, rfl, rfl⟩
  · have hsettles : settleSighting k s.lpu.linePos (sighted s) = (none, offerHorizon k (sighted s)) := by
      obtain ⟨full, none⟩ | ⟨r, only, exited, near⟩ := untracked
      · exact settleSighting_full (by exact full) (by exact none)
      · rw [settleSighting_matched (by exact only) (by simp [exited]) (by exact near), tailgateSighting_exited exited]
    rw [exec_sighting powered mode synced clear key hsettles]
    refine ⟨fun follows => ?_, fun before => ?_⟩
    · rw [offerHorizon_moves (s := sighted s) (.inr ⟨h, held, follows⟩) (by exact clearance_ahead key bound)]
      rfl
    · rw [offerHorizon_keeps (s := sighted s) (h := h) (by exact held) (precedes_asymm before)]
      rfl

end Sys2Proof.Laws
end

section
/-! PROOFS. The configuration read as the last of the three start-up reads (10 R189 to R192). -/

namespace Sys2Proof.Laws
open Sys2Proof.Machine

/-! ### The checks of the record (10 Table 10-1) -/

/-- The fields with a range, each as its least value, its value and its greatest value (11 Table 11-4). -/
def rangedFields (b : List Byte) : List (Nat × Nat × Nat) :=
  [(0, fieldAt 5 2 b, 4095), (0, fieldAt 7 2 b, 4095), (0, fieldAt 9 2 b, 4095), (0, fieldAt 11 2 b, 4095),
    (0, fieldAt 13 2 b, 4095), (0, fieldAt 15 2 b, 4095), (1, fieldAt 18 2 b, 4095), (1, fieldAt 22 2 b, 4095),
    (1, fieldAt 24 3 b, 1048575), (4, fieldAt 30 1 b, 64), (1, fieldAt 32 2 b, 65535), (1, fieldAt 34 1 b, 8),
    (1, fieldAt 35 1 b, 8), (1, fieldAt 36 3 b, 99999), (1, fieldAt 40 1 b, 16), (1, fieldAt 41 4 b, 99999999),
    (0, fieldAt 45 4 b, 99999999), (1, fieldAt 49 1 b, 15), (8, fieldAt 50 1 b, 240), (4, fieldAt 51 1 b, 10),
    (5, fieldAt 52 1 b, 16), (0, fieldAt 53 1 b, 239), (0, fieldAt 54 1 b, 47), (0, fieldAt 55 1 b, 1),
    (0, fieldAt 56 1 b, 239), (0, fieldAt 57 1 b, 47), (0, fieldAt 58 1 b, 1), (0, fieldAt 59 1 b, 239),
    (0, fieldAt 60 1 b, 47), (0, fieldAt 61 1 b, 1), (0, fieldAt 62 1 b, 239), (0, fieldAt 63 1 b, 47),
    (0, fieldAt 64 1 b, 1), (0, fieldAt 65 3 b, 999999)]

/-- Check 5: every field lies in its range. -/
theorem inRanges_iff (b : List Byte) :
    ((parseConfig b).inRanges && displaysInRange b) = true ↔
      ∀ x ∈ rangedFields b, x.1 ≤ x.2.1 ∧ x.2.1 ≤ x.2.2 := by
  have hdisplay : ∀ off, decide (fieldAt off 1 b ≤ 1) = inRange 0 1 (fieldAt off 1 b) := fun off => by simp [inRange]
  have hfields : ((parseConfig b).inRanges && displaysInRange b) =
      (rangedFields b).all fun x => inRange x.1 x.2.2 x.2.1 := by
    unfold displaysInRange
    simp only [hdisplay]
    simp only [ConfigCopy.inRanges, Field.inRanges, parseConfig, fieldOf, rangedFields, List.all_cons, List.all_nil,
      Bool.and_true, id]
    ac_rfl
  rw [hfields, List.all_eq_true]
  exact forall₂_congr fun x _ => inRange_iff _ _ _

/-- Check 7: the landmark order and the relations of pitch, width and hysteresis. -/
theorem ordered_iff (b : List Byte) :
    (parseConfig b).ordered = true ↔
      0 < fieldAt 5 2 b ∧ fieldAt 5 2 b < fieldAt 7 2 b ∧ fieldAt 7 2 b < fieldAt 9 2 b ∧
        fieldAt 9 2 b < fieldAt 11 2 b ∧ fieldAt 11 2 b ≤ fieldAt 13 2 b ∧
        fieldAt 13 2 b + (fieldAt 50 1 b - 1) * fieldAt 49 1 b < fieldAt 15 2 b ∧ fieldAt 20 1 b < fieldAt 18 2 b := by
  simp only [ConfigCopy.ordered, Bool.and_eq_true, decide_eq_true_eq, and_assoc]
  rfl

/-- The checks in their order. -/
theorem configFaultOf_some (bytes : List Byte) :
    configFaultOf (some bytes) =
      if bytes.length < 2 then some .read
      else if fieldAt 0 2 bytes < 360 ∨ 6072 < fieldAt 0 2 bytes then some .length
      else if bytes.length < fieldAt 0 2 bytes then some .read
      else if crc32 ((bytes.take (fieldAt 0 2 bytes)).take (fieldAt 0 2 bytes - 4)) ≠
          BitVec.ofNat 32 (fieldAt (fieldAt 0 2 bytes - 4) 4 (bytes.take (fieldAt 0 2 bytes))) then some .crc
      else if ¬ (1 ≤ fieldAt 2 1 (bytes.take (fieldAt 0 2 bytes)) ∧
          fieldAt 2 1 (bytes.take (fieldAt 0 2 bytes)) ≤ 14) then some .station
      else if ¬ ((parseConfig (bytes.take (fieldAt 0 2 bytes))).inRanges &&
          displaysInRange (bytes.take (fieldAt 0 2 bytes))) = true then some .range
      else if fieldAt 0 2 bytes ≠ 72 + 24 * (fieldAt 50 1 (bytes.take (fieldAt 0 2 bytes)) +
          fieldAt 51 1 (bytes.take (fieldAt 0 2 bytes))) then some .geometry
      else if ¬ (parseConfig (bytes.take (fieldAt 0 2 bytes))).ordered = true then some .order
      else none := by
  unfold configFaultOf
  simp only [← inRange_iff, Bool.or_eq_true, decide_eq_true_eq, bne_iff_ne, Bool.not_eq_true',
    Bool.not_eq_true]
  rfl

/-! ### The end of the start-up read -/

/-- The cells as their pins stand at the end of the start-up read (01 R12). -/
def cellsAtStart (s : State) : Lpu :=
  { s.lpu with entryBlocked := s.pins.cellEn, exitBlocked := s.pins.cellEx, entryRun := 0, exitRun := 0 }

theorem exec_configurationRead {s : State} (read : Option (List Byte)) (startUp : s.inStartUp = true)
    (first : s.loader.configDone = false) :
    exec (.configurationReadComplete read) s = .next (endStartUp (s.setLoader (loadConfig read s.loader))) := by
  change execConfigurationReadComplete read s = _
  unfold execConfigurationReadComplete
  rw [if_pos (by simp [startUp, first])]

/-- The last read, with a record that fails a check: OFFLINE (10 R191, R192). -/
theorem configurationRead_faulted {s : State} {read : Option (List Byte)} {why : ConfigFault} {number : Node}
    (startUp : s.inStartUp = true) (first : s.loader.configDone = false) (slots : s.loader.slotsDone = true)
    (banks : s.loader.banksDone = true) (fault : configFaultOf read = some why)
    (hnumber : numberAfter (some why) (fieldAt 2 1 (read.getD [])) = number) :
    exec (.configurationReadComplete read) s = .next
      { s with
        loader :=
          { s.loader with
            configDone := true, fault := some why, mode := some .offline, reason := .config why, number := number }
        lpu := cellsAtStart s } := by
  have hload : loadConfig read s.loader =
      { s.loader with configDone := true, fault := some why, number := number } := by
    unfold loadConfig
    rw [fault]
    dsimp only
    rw [hnumber]
    rfl
  rw [exec_configurationRead read startUp first, hload]
  unfold endStartUp
  rw [if_pos (by simp [slots, banks])]
  rfl

/-- The declared length is the field at the head of the record. -/
theorem declaredLength_eq {bytes : List Byte} (long : 2 ≤ bytes.length) : declaredLength bytes = fieldAt 0 2 bytes := by
  obtain ⟨hi, lo, rest, rfl⟩ : ∃ hi lo rest, bytes = hi :: lo :: rest := by
    match bytes, long with
    | hi :: lo :: rest, _ => exact ⟨hi, lo, rest, rfl⟩
  simp [declaredLength, fieldAt, beNat]

/-- A good record holds its length field. -/
theorem two_le_of_good {bytes : List Byte} (good : configFaultOf (some bytes) = none) : 2 ≤ bytes.length := by
  by_contra short
  rw [configFaultOf_some, if_pos (by omega)] at good
  cases good

/-- The last read, with a good record: UNSYNCED with its values (10 R191). -/
theorem configurationRead_good {s : State} {bytes : List Byte} (startUp : s.inStartUp = true)
    (first : s.loader.configDone = false) (slots : s.loader.slotsDone = true) (banks : s.loader.banksDone = true)
    (good : configFaultOf (some bytes) = none) :
    exec (.configurationReadComplete (some bytes)) s = .next
      { s with
        loader :=
          { s.loader with
            configDone := true, fault := none, mode := some .unsynced, reason := .none,
            config := parseConfig (bytes.take (declaredLength bytes)), number := BitVec.ofNat 4 (fieldAt 2 1 bytes) }
        lpu := cellsAtStart s
        wu := { s.wu with zero := (parseConfig (bytes.take (declaredLength bytes))).initialZero } } := by
  have hload : loadConfig (some bytes) s.loader =
      { s.loader with
        configDone := true, fault := none, config := parseConfig (bytes.take (declaredLength bytes)),
        number := BitVec.ofNat 4 (fieldAt 2 1 bytes) } := by
    unfold loadConfig
    rw [good, declaredLength_eq (two_le_of_good good)]
    rfl
  rw [exec_configurationRead _ startUp first, hload]
  unfold endStartUp
  rw [if_pos (by simp [slots, banks])]
  rfl

/-- A field inside the declared length is that of the bytes read. -/
theorem fieldAt_take {off size n : Nat} (inside : off + size ≤ n) (bytes : List Byte) :
    fieldAt off size (bytes.take n) = fieldAt off size bytes := by
  have h := fieldAt_piece inside 0 bytes
  rwa [List.drop_zero, Nat.zero_add] at h

/-- Settles O16: the good record, the silent port, the earlier read, and each check in its order. -/
theorem configurationReadEndsTheStartUp : Obligations.ConfigurationReadEndsTheStartUp := by
  unfold Obligations.ConfigurationReadEndsTheStartUp
  refine ⟨fun s bytes startUp first slots banks good => configurationRead_good startUp first slots banks good,
    fun s startUp first slots banks => configurationRead_faulted startUp first slots banks rfl rfl,
    fun s read startUp first others => ?_, ?_⟩
  · refine ⟨_, exec_configurationRead read startUp first, ?_⟩
    have hwaits : endStartUp (s.setLoader (loadConfig read s.loader)) = s.setLoader (loadConfig read s.loader) := by
      unfold endStartUp
      refine if_neg ?_
      change ¬ (true && s.loader.slotsDone && s.loader.banksDone) = true
      simp [others]
    rw [hwaits]
    exact ⟨((inStartUp_iff s).1 startUp).2, rfl, rfl, rfl, rfl⟩
  · rintro s bytes _ n f why number out startUp first slots banks rfl rfl hf hout checks
    obtain rfl : f = fun off size => fieldAt off size (bytes.take (fieldAt 0 2 bytes)) := funext₂ hf
    have hout : out ↔ ¬ ((parseConfig (bytes.take (fieldAt 0 2 bytes))).inRanges &&
        displaysInRange (bytes.take (fieldAt 0 2 bytes))) = true := by
      refine hout.trans ?_
      rw [inRanges_iff]
      push Not
      exact exists_congr fun x => and_congr_right fun _ => by omega
    have hended := @configurationRead_faulted s (some bytes) why number startUp first slots banks
    rw [configFaultOf_some] at hended
    rcases checks with ⟨rfl, rfl, hshort⟩ | ⟨hlong, checks⟩
    · exact hended (if_pos hshort) rfl
    rw [if_neg (by omega)] at hended
    rcases checks with ⟨rfl, rfl, hdeclared⟩ | ⟨hmin, hmax, checks⟩
    · exact hended (if_pos hdeclared) rfl
    rw [if_neg (by omega)] at hended
    rcases checks with ⟨rfl, rfl, hcut⟩ | ⟨hwhole, checks⟩
    · exact hended (if_pos hcut) rfl
    rw [if_neg (by omega)] at hended
    rcases checks with ⟨rfl, rfl, hcrc⟩ | ⟨hcrc, checks⟩
    · exact hended (if_pos hcrc) rfl
    rw [if_neg (not_not_intro hcrc)] at hended
    rcases checks with ⟨rfl, rfl, hstation⟩ | ⟨hstation, hstation', hnumber, checks⟩
    · exact hended (if_pos fun ok => hstation.elim (Nat.ne_of_gt ok.1) (Nat.not_lt.2 ok.2)) rfl
    rw [if_neg (not_not_intro ⟨hstation, hstation'⟩)] at hended
    replace hnumber := hnumber.trans (congrArg (BitVec.ofNat 4) (fieldAt_take (by omega) bytes))
    rcases checks with ⟨rfl, hrange⟩ | ⟨hrange, checks⟩
    · exact hended (if_pos (hout.1 hrange)) hnumber.symm
    rw [if_neg (mt hout.2 hrange)] at hended
    rcases checks with ⟨rfl, hsize⟩ | ⟨rfl, hsize, hordered⟩
    · exact hended (if_pos hsize) hnumber.symm
    rw [if_neg (not_not_intro hsize), if_pos (mt (ordered_iff _).1 hordered)] at hended
    exact hended rfl hnumber.symm

end Sys2Proof.Laws
end
